-- ==== Sys2Proof/Word.lean ====
section
/-! DEFINITION. The two word types of the machine (00_scope.md R5, R7): the 8-bit byte and the 16-bit word. -/

namespace Sys2Proof

/-- The addressable unit and the width of every general register (R5). -/
abbrev Byte := BitVec 8

/-- An address, a register pair, the stack pointer or the program counter (R5). -/
abbrev Word := BitVec 16

end Sys2Proof
end

