-- ==== Sys2Proof/Machine/Bits.lean ====
section
/-! DEFINITION. Slices, concatenation and sign extension of 00_scope.md R7 and R8. -/

namespace Sys2Proof.Machine

/-- `v[7:0]` of a 16-bit value (R7). -/
def loByte (w : Word) : Byte := w.extractLsb' 0 8

/-- `v[15:8]` of a 16-bit value (R7). -/
def hiByte (w : Word) : Byte := w.extractLsb' 8 8

/-- `hi ++ lo` (R7): the 16-bit value with `hi` in the high bits. -/
def wordOf (hi lo : Byte) : Word := hi ++ lo

/-- `sext_16(v)` (R8). -/
def sext16 (v : Byte) : Word := if v.getLsbD 7 then 0xFF00#16 + v.setWidth 16 else v.setWidth 16

/-- `signed(v)` (R8), an integer in [−128, 127]. -/
def signedByte (v : Byte) : Int := if v.getLsbD 7 then (v.toNat : Int) - 256 else (v.toNat : Int)

/-- The address `0xFF00 + n` of the high page (R211 to R213). -/
def highPage (n : Byte) : Word := 0xFF00#16 + n.setWidth 16

/-- One bit as a 0/1 number. -/
def bitNat (b : Bool) : Nat := if b then 1 else 0

end Sys2Proof.Machine
end

