-- ==== Sys2Proof/Config.lean ====
section
/-! DEFINITION. The parameters of 00_scope.md R6 that are not memory contents, as plain data.
`BOOT_ROM` and `CART` are memory contents and stand in State. Their default values are in
Machine/Defaults.lean. A state carries one `Params` that no step changes (Log 4), so a statement about
every state is a statement about every choice of the parameters. -/

namespace Sys2Proof

/-- `CCF_MODE` (R6, R264): what opcode 0x3F does with the Carry flag. -/
inductive CcfMode where
  | toggle
  | clear
  deriving DecidableEq, Repr

/-- `LCDC_BITS` (R6, R404): the bit position of each of the eight LCDC fields. -/
structure LcdcBits where
  displayOn : Fin 8
  windowMapSelect : Fin 8
  windowOn : Fin 8
  tileDataSelect : Fin 8
  tileMapSelect : Fin 8
  spriteSize : Fin 8
  spritesOn : Fin 8
  backgroundOn : Fin 8
  deriving DecidableEq, Repr

/-- `SHADE` (R6, R420): the 8-bit shade of each 2-bit shade code. -/
structure Shades where
  code0 : Byte
  code1 : Byte
  code2 : Byte
  code3 : Byte
  deriving DecidableEq, Repr

/-- A row of the two decode tables (R100, R111): a primary opcode, or the byte after 0xCB. -/
inductive OpRow where
  | primary (op : Byte)
  | extended (sub : Byte)
  deriving DecidableEq, Repr

/-- What an instruction reports before `COST` is consulted: whether a conditional one was taken (true for
every unconditional one) and the default cost of R570, which each instruction rule repeats as `cost <- n`. -/
structure Charge where
  taken : Bool
  base : Nat
  deriving DecidableEq, Repr

/-- One entry of `COST` that differs from the default of R570. -/
structure CostEntry where
  row : OpRow
  taken : Bool
  cost : Nat
  deriving DecidableEq, Repr

/-- The parameters of R6 (less `BOOT_ROM` and `CART`). -/
structure Params where
  /-- `COST`, as its differences from the default of R570 (Log 5): the first entry for a row and outcome wins. -/
  costs : List CostEntry
  /-- `TICK_SCALE`: PPU clock cycles per machine cycle (R401, R555). -/
  tickScale : Nat
  /-- `UNMAPPED`: the addresses whose access fails with MemoryAccessError (R75). -/
  unmapped : List Word
  lcdcBits : LcdcBits
  shade : Shades
  ccfMode : CcfMode
  /-- `HISTORY_DEPTH` (R502). -/
  historyDepth : Nat
  deriving DecidableEq, Repr

/-- The eight positions of `LCDC_BITS` as a list. -/
def LcdcBits.positions (b : LcdcBits) : List (Fin 8) :=
  [b.displayOn, b.windowMapSelect, b.windowOn, b.tileDataSelect,
   b.tileMapSelect, b.spriteSize, b.spritesOn, b.backgroundOn]

/-- The values R6 admits: `COST` and `TICK_SCALE` and `HISTORY_DEPTH` positive, the LCDC fields at eight different
positions (R403 needs that for pack after unpack to return the byte). -/
abbrev Params.wf (p : Params) : Prop :=
  (∀ e ∈ p.costs, 0 < e.cost) ∧ 0 < p.tickScale ∧ 0 < p.historyDepth ∧ p.lcdcBits.positions.Nodup

end Sys2Proof
end

