-- ==== Sys2Proof/Machine/Defaults.lean ====
section
/-! DEFINITION. The default values of the parameters of 00_scope.md R6 (Log 5). The default of `COST` stands in
the instruction meanings, as the `cost <- n` of each rule (R570). -/

namespace Sys2Proof

/-- Default `LCDC_BITS` (R404, D24): bit 7 display-on down to bit 0 background-on. -/
def LcdcBits.default : LcdcBits where
  displayOn := 7
  windowMapSelect := 6
  windowOn := 5
  tileDataSelect := 4
  tileMapSelect := 3
  spriteSize := 2
  spritesOn := 1
  backgroundOn := 0

/-- Default `SHADE` (R420, D28): `[255, 192, 96, 0]`. -/
def Shades.default : Shades where
  code0 := 255
  code1 := 192
  code2 := 96
  code3 := 0

/-- The defaults of R6. -/
def Params.default : Params where
  costs := []
  tickScale := 4
  unmapped := []
  lcdcBits := LcdcBits.default
  shade := Shades.default
  ccfMode := .toggle
  historyDepth := 10

end Sys2Proof
end

