-- ==== Sys2Proof/Machine/State.lean ====
section
/-! DEFINITION. The state of the machine (10_state.md, 50_ppu.md R400) as plain data, the error kinds the run loop
records, the model's stop reasons, and the state after construction (R39, R550). INVENTORY.md lists every field
with its rule and reset value. -/

namespace Sys2Proof.Machine

/-- The seven stored 8-bit registers (R20). -/
structure Regs where
  a : Byte
  b : Byte
  c : Byte
  d : Byte
  e : Byte
  h : Byte
  l : Byte
  deriving DecidableEq, Repr

/-- FlagSet (R26): Zero, Subtract, HalfCarry, Carry. -/
structure Flags where
  fZ : Bool
  fN : Bool
  fH : Bool
  fC : Bool
  deriving DecidableEq, Repr

/-- The four PPU modes (R400). -/
inductive PpuMode where
  | oamScan
  | pixelTransfer
  | hBlank
  | vBlank
  deriving DecidableEq, Repr

/-- The eight one-bit fields of LCDC (R403). -/
structure Lcdc where
  displayOn : Bool
  windowMapSelect : Bool
  windowOn : Bool
  tileDataSelect : Bool
  tileMapSelect : Bool
  spriteSize : Bool
  spritesOn : Bool
  backgroundOn : Bool
  deriving DecidableEq, Repr

/-- The background palette (R408): the 2-bit shade code of each colour index. -/
structure Palette where
  p0 : BitVec 2
  p1 : BitVec 2
  p2 : BitVec 2
  p3 : BitVec 2
  deriving DecidableEq, Repr

/-- The framebuffer (R421): rows from the top, columns from the left. -/
abbrev Framebuffer := List (List Byte)

/-- The PPU's state (R33, R400) apart from video RAM, which is the part 0x8000–0x9FFF of `State.mem`. -/
structure Ppu where
  mode : PpuMode
  counter : Nat
  line : Byte
  scrollX : Byte
  scrollY : Byte
  lcdc : Lcdc
  palette : Palette
  framebuffer : Framebuffer
  deriving DecidableEq, Repr

/-- The three error kinds of R504. `registerRange` is unreachable (R508, Log 13). -/
inductive ErrorKind where
  | unsupportedOpcode
  | memoryAccess
  | registerRange
  deriving DecidableEq, Repr

/-- One pair of the history buffer (R35, R502). -/
structure HistoryEntry where
  address : Word
  opcode : Byte
  deriving DecidableEq, Repr

/-- One record of the diagnostic log (R511). The opcode is absent when the opcode fetch itself failed (R509). -/
structure LogRecord where
  kind : ErrorKind
  opcode : Option Byte
  address : Word
  history : List HistoryEntry
  deriving DecidableEq, Repr

/-- Bytes by address, in one canonical form (`Memory.wf` in Machine/Ops.lean). -/
abbrev Memory := List Host.Cell

/-- The machine's state. -/
structure State where
  regs : Regs
  flags : Flags
  sp : Word
  pc : Word
  interruptsEnabled : Bool
  running : Bool
  bootOverlay : Bool
  /-- `BOOT_ROM`, addresses 0x00–0xFF (R70). -/
  bootRom : Memory
  /-- ROM banks, VRAM, RAM and plain I/O bytes (R61), by bus address. -/
  mem : Memory
  ppu : Ppu
  /-- Oldest entry first (R502). -/
  history : List HistoryEntry
  /-- Machine cycles reported so far (R36). -/
  clock : Nat
  /-- Output: the diagnostic log, oldest record first (R511). -/
  log : List LogRecord
  /-- Output: the framebuffer of every present event, oldest first (R422). -/
  presents : List Framebuffer
  /-- The MODEL's own field: the launch parameters, which no step changes (R6, R38, Log 4). -/
  cfg : Params
  deriving DecidableEq, Repr

/-- Reasons for a step to stop with a fault. There is none: the run loop recovers from every error (R504, R505), so
an error is a next state with a log record (Log 7). -/
inductive Fault where
  deriving DecidableEq, Repr

/-- Reasons to refuse. -/
inductive Refusal where
  /-- An instruction without a meaning yet, raised by exec's refused arms only. Safe: the machine stops. No arm uses it. -/
  | notModelled (mnemonic : String)
  /-- Raised by `Session.loadCartridge`, before the run, for an image shorter than 0x8000 bytes (R71). Safe: the spec
  refuses the session. No step raises it. -/
  | cartridgeTooShort (length : Nat)
  deriving DecidableEq, Repr

/-- The outcome of a step or of a session event. -/
abbrev Outcome := Host.Outcome State Fault Refusal

/-- The PPU after construction (R39, D34). -/
def Ppu.reset : Ppu where
  mode := .oamScan
  counter := 0
  line := 0
  scrollX := 0
  scrollY := 0
  lcdc := ⟨false, false, false, false, false, false, false, false⟩
  palette := ⟨0, 0, 0, 0⟩
  framebuffer := List.replicate 144 (List.replicate 160 0)

/-- The state after construction of a session (R39, R550), with no cartridge and no boot program loaded (Log 1). -/
def State.reset : State where
  regs := ⟨0, 0, 0, 0, 0, 0, 0⟩
  flags := ⟨false, false, false, false⟩
  sp := 0
  pc := 0
  interruptsEnabled := false
  running := true
  bootOverlay := true
  bootRom := []
  mem := []
  ppu := Ppu.reset
  history := []
  clock := 0
  log := []
  presents := []
  cfg := Params.default

end Sys2Proof.Machine
end

