-- ==== Sys2Proof/Machine/Flags.lean ====
section
/-! DEFINITION. The ALU (40_alu.md): every primitive as a function of the flags before and its operands, giving the result
and the flags after (R130); the packed flags byte (10_state.md R27); the conditions (45_control.md R300). A flag a rule
does not list is the flag before. Results are computed on unbounded numbers and narrowed (R7). -/

namespace Sys2Proof.Machine

/-- `pack()` (R27): `fZ ++ fN ++ fH ++ fC ++ 0b0000`. -/
def Flags.pack (f : Flags) : Byte :=
  BitVec.ofNat 8 (bitNat f.fZ * 128 + bitNat f.fN * 64 + bitNat f.fH * 32 + bitNat f.fC * 16)

/-- `unpack(b)` (R27): bits 7..4, the low nibble discarded. -/
def Flags.unpack (b : Byte) : Flags where
  fZ := b.getLsbD 7
  fN := b.getLsbD 6
  fH := b.getLsbD 5
  fC := b.getLsbD 4

/-- `cond(cc)` (R300). -/
def Flags.holds (f : Flags) : Cond → Bool
  | .NZ => !f.fZ
  | .Z => f.fZ
  | .NC => !f.fC
  | .C => f.fC

/-- Half-carry of an addition (R139): `((a & m) + (b & m) + carry) & (m+1) == m+1`, on the low nibble (`m = 0xF`). -/
def halfCarry (a b c : Nat) : Bool := ((a &&& 0xF) + (b &&& 0xF) + c) &&& 0x10 == 0x10

/-- Half-borrow of a subtraction (R139, D4): the low nibble borrows from bit 4. -/
def halfBorrow (a b c : Nat) : Bool := decide ((a &&& 0xF) < (b &&& 0xF) + c)

/-- The carry from bit 11 to bit 12 of a 16-bit addition (R140). -/
def halfCarry16 (a b : Nat) : Bool := ((a &&& 0xFFF) + (b &&& 0xFFF)) &&& 0x1000 == 0x1000

/-! ## Increment and decrement -/

/-- R131. -/
def Alu.incByte (f : Flags) (v : Byte) : Byte × Flags :=
  let r := BitVec.ofNat 8 (v.toNat + 1)
  (r, { f with fZ := r == 0, fN := false, fH := (v.toNat &&& 0xF) + 1 == 0x10 })

/-- R132. -/
def Alu.decByte (f : Flags) (v : Byte) : Byte × Flags :=
  let r := BitVec.ofInt 8 ((v.toNat : Int) - 1)
  (r, { f with fZ := r == 0, fN := true, fH := (v.toNat &&& 0xF) == 0 })

/-- R133. -/
def Alu.incWord (f : Flags) (v : Word) : Word × Flags :=
  let r := BitVec.ofNat 16 (v.toNat + 1)
  (r, { f with fZ := r == 0, fN := false, fH := (v.toNat &&& 0xFFF) + 1 == 0x1000 })

/-- R134. -/
def Alu.decWord (f : Flags) (v : Word) : Word × Flags :=
  let r := BitVec.ofInt 16 ((v.toNat : Int) - 1)
  (r, { f with fZ := r == 0, fN := true, fH := (v.toNat &&& 0xFFF) == 0 })

/-! ## Addition and subtraction -/

/-- The addition of R135 and R136 with the incoming carry given as a number. -/
def Alu.addCarry (a b : Byte) (c : Nat) : Byte × Flags :=
  let t := a.toNat + b.toNat + c
  let r := BitVec.ofNat 8 t
  (r, { fZ := r == 0, fN := false, fH := halfCarry a.toNat b.toNat c, fC := decide (0xFF < t) })

/-- The subtraction of R137 and R138 with the incoming borrow given as a number. -/
def Alu.subCarry (a b : Byte) (c : Nat) : Byte × Flags :=
  let t : Int := (a.toNat : Int) - b.toNat - c
  let r := BitVec.ofInt 8 t
  (r, { fZ := r == 0, fN := true, fH := halfBorrow a.toNat b.toNat c, fC := decide (t < 0) })

/-- R135. -/
def Alu.addByte (_f : Flags) (a b : Byte) : Byte × Flags := Alu.addCarry a b 0

/-- R136: reads `fC`. -/
def Alu.addByteWithCarry (f : Flags) (a b : Byte) : Byte × Flags := Alu.addCarry a b (bitNat f.fC)

/-- R137. -/
def Alu.subByte (_f : Flags) (a b : Byte) : Byte × Flags := Alu.subCarry a b 0

/-- R138: reads `fC`. -/
def Alu.subByteWithCarry (f : Flags) (a b : Byte) : Byte × Flags := Alu.subCarry a b (bitNat f.fC)

/-- R140: `fZ` unchanged. -/
def Alu.addWords (f : Flags) (a b : Word) : Word × Flags :=
  let t := a.toNat + b.toNat
  (BitVec.ofNat 16 t, { f with fN := false, fH := halfCarry16 a.toNat b.toNat, fC := decide (0xFFFF < t) })

/-! ## Logic and compare -/

/-- R141. -/
def Alu.and (_f : Flags) (a b : Byte) : Byte × Flags :=
  let r := a &&& b
  (r, { fZ := r == 0, fN := false, fH := true, fC := false })

/-- R142. -/
def Alu.or (_f : Flags) (a b : Byte) : Byte × Flags :=
  let r := a ||| b
  (r, { fZ := r == 0, fN := false, fH := false, fC := false })

/-- R143. -/
def Alu.xor (_f : Flags) (a b : Byte) : Byte × Flags :=
  let r := a ^^^ b
  (r, { fZ := r == 0, fN := false, fH := false, fC := false })

/-- R144: `subByte` with the result dropped. -/
def Alu.compare (f : Flags) (a b : Byte) : Flags := (Alu.subByte f a b).2

/-! ## Rotates, shifts and swap -/

/-- The flags of a rotate or shift (R145 to R151): `fZ` from the result, `fN = fH = 0`, `fC` the bit shifted out. -/
def shiftFlags (r : Byte) (out : Bool) : Flags := { fZ := r == 0, fN := false, fH := false, fC := out }

/-- R145. -/
def Alu.rotateLeftCarry (_f : Flags) (v : Byte) : Byte × Flags :=
  let out := v.getLsbD 7
  let r := (v <<< 1) ||| BitVec.ofNat 8 (bitNat out)
  (r, shiftFlags r out)

/-- R146. -/
def Alu.rotateRightCarry (_f : Flags) (v : Byte) : Byte × Flags :=
  let out := v.getLsbD 0
  let r := (v >>> 1) ||| BitVec.ofNat 8 (bitNat out * 128)
  (r, shiftFlags r out)

/-- R147: reads `fC`. -/
def Alu.rotateLeft (f : Flags) (v : Byte) : Byte × Flags :=
  let r := (v <<< 1) ||| BitVec.ofNat 8 (bitNat f.fC)
  (r, shiftFlags r (v.getLsbD 7))

/-- R148: reads `fC`. -/
def Alu.rotateRight (f : Flags) (v : Byte) : Byte × Flags :=
  let r := (v >>> 1) ||| BitVec.ofNat 8 (bitNat f.fC * 128)
  (r, shiftFlags r (v.getLsbD 0))

/-- R149. -/
def Alu.shiftLeftSigned (_f : Flags) (v : Byte) : Byte × Flags :=
  let r := v <<< 1
  (r, shiftFlags r (v.getLsbD 7))

/-- R150. -/
def Alu.shiftRightSigned (_f : Flags) (v : Byte) : Byte × Flags :=
  let r := (v >>> 1) ||| (v &&& 0x80#8)
  (r, shiftFlags r (v.getLsbD 0))

/-- R151. -/
def Alu.shiftRight (_f : Flags) (v : Byte) : Byte × Flags :=
  let r := v >>> 1
  (r, shiftFlags r (v.getLsbD 0))

/-- R152. -/
def Alu.swap (_f : Flags) (v : Byte) : Byte × Flags :=
  let r := ((v &&& 0x0F#8) <<< 4) ||| (v >>> 4)
  (r, { fZ := r == 0, fN := false, fH := false, fC := false })

/-! ## Complement, bit operations, carry -/

/-- R153. -/
def Alu.complement (f : Flags) (v : Byte) : Byte × Flags :=
  (v ^^^ 0xFF#8, { f with fN := true, fH := true })

/-- R154. -/
def Alu.bitTest (f : Flags) (bit : Fin 8) (v : Byte) : Flags :=
  { f with fZ := !v.getLsbD bit, fN := false, fH := true }

/-- R155. -/
def Alu.setBit (bit : Fin 8) (v : Byte) : Byte := v ||| (1#8 <<< bit.val)

/-- R156. -/
def Alu.resetBit (bit : Fin 8) (v : Byte) : Byte := v &&& ~~~(1#8 <<< bit.val)

/-- R157. -/
def Alu.setCarry (f : Flags) : Flags := { f with fC := true }

/-- R158. -/
def Alu.clearCarry (f : Flags) : Flags := { f with fC := false }

/-! ## Operation selectors -/

/-- The primitive of an accumulator operation (R250 to R257): the new accumulator and the flags. `CP` keeps the accumulator. -/
def Alu.accumulate (op : AccOp) (f : Flags) (a v : Byte) : Byte × Flags :=
  match op with
  | .add => Alu.addByte f a v
  | .adc => Alu.addByteWithCarry f a v
  | .sub => Alu.subByte f a v
  | .sbc => Alu.subByteWithCarry f a v
  | .and => Alu.and f a v
  | .xor => Alu.xor f a v
  | .or => Alu.or f a v
  | .cp => (a, Alu.compare f a v)

/-- The primitive of a rotate, shift or swap (R331 to R338). -/
def Alu.rotate (op : RotOp) (f : Flags) (v : Byte) : Byte × Flags :=
  match op with
  | .rlc => Alu.rotateLeftCarry f v
  | .rrc => Alu.rotateRightCarry f v
  | .rl => Alu.rotateLeft f v
  | .rr => Alu.rotateRight f v
  | .sla => Alu.shiftLeftSigned f v
  | .sra => Alu.shiftRightSigned f v
  | .swap => Alu.swap f v
  | .srl => Alu.shiftRight f v

end Sys2Proof.Machine
end

