-- ==== Sys2Proof/Machine/PpuRegs.lean ====
section
/-! DEFINITION. The five PPU registers as bytes (50_ppu.md R402 to R408). -/

namespace Sys2Proof.Machine

/-- Read of LCDC: "pack 8 named bits" (R403), each field at its position of `LCDC_BITS` (R404). -/
def Lcdc.pack (p : LcdcBits) (f : Lcdc) : Byte :=
  let bit (on : Bool) (pos : Fin 8) : Byte := if on then 1#8 <<< pos.val else 0#8
  bit f.displayOn p.displayOn ||| bit f.windowMapSelect p.windowMapSelect |||
  bit f.windowOn p.windowOn ||| bit f.tileDataSelect p.tileDataSelect |||
  bit f.tileMapSelect p.tileMapSelect ||| bit f.spriteSize p.spriteSize |||
  bit f.spritesOn p.spritesOn ||| bit f.backgroundOn p.backgroundOn

/-- Write of LCDC: "unpack 8 named bits" (R403, R404). -/
def Lcdc.unpack (p : LcdcBits) (v : Byte) : Lcdc where
  displayOn := v.getLsbD p.displayOn
  windowMapSelect := v.getLsbD p.windowMapSelect
  windowOn := v.getLsbD p.windowOn
  tileDataSelect := v.getLsbD p.tileDataSelect
  tileMapSelect := v.getLsbD p.tileMapSelect
  spriteSize := v.getLsbD p.spriteSize
  spritesOn := v.getLsbD p.spritesOn
  backgroundOn := v.getLsbD p.backgroundOn

/-- Read of BGP (R408): `palette[3] ++ palette[2] ++ palette[1] ++ palette[0]`. -/
def Palette.pack (p : Palette) : Byte := p.p3 ++ p.p2 ++ p.p1 ++ p.p0

/-- Write of BGP (R408): `palette[i] <- v[2i+1 : 2i]`. -/
def Palette.unpack (v : Byte) : Palette where
  p0 := v.extractLsb' 0 2
  p1 := v.extractLsb' 2 2
  p2 := v.extractLsb' 4 2
  p3 := v.extractLsb' 6 2

/-- `palette[ci]` for a 2-bit colour index. -/
def Palette.code (p : Palette) (ci : BitVec 2) : BitVec 2 :=
  if ci = 0 then p.p0 else if ci = 1 then p.p1 else if ci = 2 then p.p2 else p.p3

/-- `SHADE[code]` (R420). -/
def shadeOf (s : Shades) (code : BitVec 2) : Byte :=
  if code = 0 then s.code0 else if code = 1 then s.code1 else if code = 2 then s.code2 else s.code3

/-- The five addresses the PPU's registers own (R402, 20_memory.md R74). -/
def ppuRegister (a : Nat) : Bool :=
  a == 0xFF40 || a == 0xFF42 || a == 0xFF43 || a == 0xFF44 || a == 0xFF47

/-- The read column of R402 for the five registers. -/
def Ppu.readReg (p : LcdcBits) (u : Ppu) (a : Nat) : Byte :=
  if a = 0xFF40 then u.lcdc.pack p
  else if a = 0xFF42 then u.scrollY
  else if a = 0xFF43 then u.scrollX
  else if a = 0xFF44 then u.line
  else u.palette.pack

/-- The write column of R402 for the five registers. -/
def Ppu.writeReg (p : LcdcBits) (u : Ppu) (a : Nat) (v : Byte) : Ppu :=
  if a = 0xFF40 then { u with lcdc := Lcdc.unpack p v }
  else if a = 0xFF42 then { u with scrollY := v }
  else if a = 0xFF43 then { u with scrollX := v }
  else if a = 0xFF44 then { u with line := v }
  else { u with palette := Palette.unpack v }

end Sys2Proof.Machine
end

