-- ==== Sys2Proof/Machine/Ops.lean ====
section
/-! DEFINITION. Memory and its access primitives (20_memory.md R60 to R75), the fetch primitives (30_encoding.md R101,
R102), the history (60_exceptions.md R502), and the one operation that takes an error (R505, R511). -/

namespace Sys2Proof.Machine

/-! ## The stored bytes -/

/-- What an address without an entry reads as (10_state.md R39; Logs 1 and 2). -/
def unlistedByte : Byte := 0x00#8

/-- The canonical form: addresses strictly rising, no entry equal to what an unlisted address reads as. -/
abbrev Memory.wf (m : Memory) : Prop :=
  m.Pairwise (fun x y => x.1 < y.1) ∧ ∀ c ∈ m, c.2 ≠ unlistedByte

/-- The stored byte at an address. -/
def Memory.read : Memory → Nat → Byte
  | [], _ => unlistedByte
  | (k, w) :: rest, a => if k = a then w else Memory.read rest a

/-- Put an entry in front, unless it is what an unlisted address reads as. -/
def Memory.cons (a : Nat) (v : Byte) (m : Memory) : Memory :=
  if v = unlistedByte then m else (a, v) :: m

/-- Store a byte at an address, keeping the canonical form. -/
def Memory.write : Memory → Nat → Byte → Memory
  | [], a, v => Memory.cons a v []
  | (k, w) :: rest, a, v =>
    if a < k then Memory.cons a v ((k, w) :: rest)
    else if a = k then Memory.cons a v rest
    else (k, w) :: Memory.write rest a v

/-! ## The address space -/

/-- The access raises MemoryAccessError (R75). -/
def State.unmappedAt (s : State) (a : Word) : Bool := s.cfg.unmapped.contains a

/-- The read column of the region table (R61), the first row (`UNMAPPED`) apart. -/
def State.peek (s : State) (a : Word) : Byte :=
  if s.bootOverlay && decide (a.toNat < 0x100) then s.bootRom.read a.toNat
  else if ppuRegister a.toNat then s.ppu.readReg s.cfg.lcdcBits a.toNat
  else s.mem.read a.toNat

/-- The write column of the region table (R61), the first row apart: a write below 0x8000 is dropped (R72). -/
def State.poke (s : State) (a : Word) (v : Byte) : State :=
  if a.toNat < 0x8000 then s
  else if ppuRegister a.toNat then { s with ppu := s.ppu.writeReg s.cfg.lcdcBits a.toNat v }
  else { s with mem := s.mem.write a.toNat v }

/-! ## Operations that may raise

An operation runs on a state and either answers or raises an error; either way it leaves the state as it then stands,
so the effects before a raise stay (R505). -/

/-- An operation of the machine that may raise one of the errors of R504. -/
abbrev Exec (α : Type) := EStateM ErrorKind State α

/-- `raise` (R8, R505). -/
def raise {α : Type} (e : ErrorKind) : Exec α := fun s => .error e s

/-- Read something off the state. -/
def reads {α : Type} (f : State → α) : Exec α := fun s => .ok (f s) s

/-- Change the state. -/
def updates (f : State → State) : Exec Unit := fun s => .ok () (f s)

/-- `readByte(addr)` (R62). -/
def readByte (a : Word) : Exec Byte := fun s =>
  if s.unmappedAt a then .error .memoryAccess s else .ok (s.peek a) s

/-- `writeByte(addr, value)` (R63). -/
def writeByte (a : Word) (v : Byte) : Exec Unit := fun s =>
  if s.unmappedAt a then .error .memoryAccess s else .ok () (s.poke a v)

/-- `MemRead(addr, 2)` (R64): the low-address byte first, the address wraps. -/
def readWord (a : Word) : Exec Word := do
  let lo ← readByte a
  let hi ← readByte (a + 1)
  return wordOf hi lo

/-- `MemWrite(addr, 2, v)` (R65): the low-address byte first, the address wraps. -/
def writeWord (a : Word) (v : Word) : Exec Unit := do
  writeByte a (loByte v)
  writeByte (a + 1) (hiByte v)

/-- `pc <- target` (R8). -/
def State.setPc (s : State) (a : Word) : State := { s with pc := a }

/-- `sp <- v` (R8). -/
def State.setSp (s : State) (a : Word) : State := { s with sp := a }

/-- `fetch8()` (R101): if the read raises, `pc` has not advanced. -/
def fetch8 : Exec Byte := do
  let a ← reads (·.pc)
  let v ← readByte a
  updates (·.setPc (a + 1))
  return v

/-- `fetch16()` (R102). -/
def fetch16 : Exec Word := do
  let lo ← fetch8
  let hi ← fetch8
  return wordOf hi lo

/-! ## The stack (42_load16_stack.md R234, R235) -/

/-- `sp <- (sp − 2) mod 65536; MemWrite(sp, 2, v)`. -/
def pushWord (v : Word) : Exec Unit := do
  let sp ← reads (·.sp)
  updates (·.setSp (sp - 2))
  writeWord (sp - 2) v

/-- `v <- MemRead(sp, 2); sp <- (sp + 2) mod 65536`. -/
def popWord : Exec Word := do
  let sp ← reads (·.sp)
  let v ← readWord sp
  updates (·.setSp (sp + 2))
  return v

/-! ## History and errors -/

/-- `history.append((a, op))`, dropping the oldest entry when the buffer is full (R502). -/
def State.record (s : State) (a : Word) (op : Byte) : State :=
  let h := s.history ++ [⟨a, op⟩]
  { s with history := h.drop (h.length - s.cfg.historyDepth) }

/-- Taking an error (R505, R511): one record is appended to the log and the run goes on. Nothing else changes: no cost,
no tick, no interrupt sample, no change of `pc`, `running`, `interruptsEnabled` or `bootOverlay`. There is no handler and
nothing to return from. -/
def takeError (e : ErrorKind) (op : Option Byte) (a : Word) (s : State) : State :=
  { s with log := s.log ++ [⟨e, op, a, s.history⟩] }

/-- The opcode byte of a row: the byte itself, or the prefix (R502, D38). -/
def opcodeByte : OpRow → Byte
  | .primary op => op
  | .extended _ => 0xCB

end Sys2Proof.Machine
end

