-- ==== Sys2Proof/Machine/Operands.lean ====
section
/-! DEFINITION. The operand forms (30_encoding.md R103, R104; 10_state.md R20 to R22): registers, pairs, `SP`, `AF`, the byte
at `HL`, immediates. -/

namespace Sys2Proof.Machine

/-- `x[r]` (R8, R20). -/
def State.reg (s : State) : Reg8 → Byte
  | .A => s.regs.a
  | .B => s.regs.b
  | .C => s.regs.c
  | .D => s.regs.d
  | .E => s.regs.e
  | .H => s.regs.h
  | .L => s.regs.l

/-- `x[r] <- v` (R8, R20). -/
def State.setReg (s : State) (r : Reg8) (v : Byte) : State :=
  match r with
  | .A => { s with regs := { s.regs with a := v } }
  | .B => { s with regs := { s.regs with b := v } }
  | .C => { s with regs := { s.regs with c := v } }
  | .D => { s with regs := { s.regs with d := v } }
  | .E => { s with regs := { s.regs with e := v } }
  | .H => { s with regs := { s.regs with h := v } }
  | .L => { s with regs := { s.regs with l := v } }

/-- The high half of a pair (R21). -/
def pairHi : Pair → Reg8
  | .BC => .B
  | .DE => .D
  | .HL => .H

/-- The low half of a pair (R21). -/
def pairLo : Pair → Reg8
  | .BC => .C
  | .DE => .E
  | .HL => .L

/-- `xx[p]` (R21). -/
def State.pair (s : State) (p : Pair) : Word := wordOf (s.reg (pairHi p)) (s.reg (pairLo p))

/-- `xx[p] <- v` (R21). -/
def State.setPair (s : State) (p : Pair) (v : Word) : State :=
  (s.setReg (pairHi p) (hiByte v)).setReg (pairLo p) (loByte v)

/-- The four flags as the ALU leaves them. -/
def State.setFlags (s : State) (f : Flags) : State := { s with flags := f }

/-- The 16-bit operand of R104 with code 3 = `SP`. -/
def State.reg16 (s : State) : Reg16 → Word
  | .pair p => s.pair p
  | .SP => s.sp

/-- Write the 16-bit operand of R104 with code 3 = `SP`. -/
def State.setReg16 (s : State) (r : Reg16) (v : Word) : State :=
  match r with
  | .pair p => s.setPair p v
  | .SP => s.setSp v

/-- The 16-bit operand of R104 with code 3 = `AF`: `x[A] ++ F`, with `F = pack()` (R22, R27). -/
def State.stackReg (s : State) : StackReg → Word
  | .pair p => s.pair p
  | .AF => wordOf (s.reg .A) s.flags.pack

/-- Write the 16-bit operand of R104 with code 3 = `AF`: `x[A] <- v[15:8]; unpack(v[7:0])` (R235). -/
def State.setStackReg (s : State) (r : StackReg) (v : Word) : State :=
  match r with
  | .pair p => s.setPair p v
  | .AF => (s.setReg .A (hiByte v)).setFlags (Flags.unpack (loByte v))

/-- Read an 8-bit operand (R103). -/
def readOperand : Operand8 → Exec Byte
  | .reg r => reads (·.reg r)
  | .mHL => do
    let a ← reads (·.pair .HL)
    readByte a

/-- Write an 8-bit operand (R103). -/
def writeOperand (o : Operand8) (v : Byte) : Exec Unit :=
  match o with
  | .reg r => updates (·.setReg r v)
  | .mHL => do
    let a ← reads (·.pair .HL)
    writeByte a v

/-- `operand(s)` of an accumulator instruction (43_arith8.md). An immediate has been fetched with the instruction. -/
def readSource : Source → Exec Byte
  | .op o => readOperand o
  | .imm n => pure n

/-- Read an 8-bit operand, apply an ALU primitive to it, keep the flags, then write the result back (R259, R330): a failing
write-back leaves the new flags in place. -/
def modifyOperand (o : Operand8) (f : Flags → Byte → Byte × Flags) : Exec Unit := do
  let v ← readOperand o
  let fl ← reads (·.flags)
  updates (·.setFlags (f fl v).2)
  writeOperand o (f fl v).1

/-- An instruction that costs `r` on a register and `m` on the byte at `HL`. -/
def operandCost (r m : Nat) : Operand8 → Nat
  | .reg _ => r
  | .mHL => m

/-- An unconditional instruction's charge: its default cost (R570). -/
def charge (n : Nat) : Charge := ⟨true, n⟩

/-- `cost(s)` of an accumulator instruction (43_arith8.md). -/
def sourceCost : Source → Nat
  | .op (.reg _) => 1
  | .op .mHL => 2
  | .imm _ => 2

end Sys2Proof.Machine
end

