-- ==== Sys2Proof/Machine/Ppu.lean ====
section
/-! DEFINITION. The PPU's timing machine and background renderer (50_ppu.md R410 to R424), as functions of the PPU's own
state, of the memory that holds video RAM and of the parameter `SHADE`. The PPU reads video RAM directly, not through the
bus (20_memory.md R76), and writes nothing but its own state and the events it presents. -/

namespace Sys2Proof.Machine

/-- `vram[off]` (R409). -/
def vramByte (m : Memory) (off : Nat) : Byte := m.read (0x8000 + off)

/-- `mapBase` (R417). -/
def mapBase (tileMapSelect : Bool) : Nat := if tileMapSelect then 0x1C00 else 0x1800

/-- `tileAddr(idx)` (R418). -/
def tileAddr (tileDataSelect : Bool) (idx : Nat) : Nat :=
  if tileDataSelect then 16 * idx else 0x0800 + 16 * ((idx + 128) % 256)

/-- The colour index `hi[k] ++ lo[k]` (R419). -/
def colourIndex (hi lo : Byte) (k : Nat) : BitVec 2 :=
  BitVec.ofNat 2 (2 * bitNat (hi.getLsbD k) + bitNat (lo.getLsbD k))

/-- The shade code `palette[ci]` of pixel `px` of the current line (R416). -/
def pixelCode (m : Memory) (u : Ppu) (px : Nat) : BitVec 2 :=
  let y := (u.scrollY.toNat + u.line.toNat) % 256
  let trow := y / 8
  let ty := y % 8
  let tcol := (u.scrollX.toNat / 8 + px / 8) % 32
  let idx := vramByte m (mapBase u.lcdc.tileMapSelect + 32 * trow + tcol)
  let ta := tileAddr u.lcdc.tileDataSelect idx.toNat
  let lo := vramByte m (ta + 2 * ty)
  let hi := vramByte m (ta + 2 * ty + 1)
  u.palette.code (colourIndex hi lo (7 - px % 8))

/-- The 160 pixels of the current line (R416, R420). -/
def renderRow (sh : Shades) (m : Memory) (u : Ppu) : List Byte :=
  (List.range 160).map (fun px => shadeOf sh (pixelCode m u px))

/-- `renderScanline()` (R416): row `line` of the framebuffer, nothing when `line ≥ 144` (R424). -/
def renderScanline (sh : Shades) (m : Memory) (u : Ppu) : Ppu :=
  if u.line.toNat < 144 then { u with framebuffer := u.framebuffer.set u.line.toNat (renderRow sh m u) } else u

/-- The number of clock cycles a mode lasts (R410 to R413). -/
def modeLength : PpuMode → Nat
  | .oamScan => 80
  | .pixelTransfer => 172
  | .hBlank => 204
  | .vBlank => 456

/-- Take the threshold of the current mode off the counter. -/
def Ppu.consume (u : Ppu) : Ppu := { u with counter := u.counter - modeLength u.mode }

/-- Enter a mode with a line counter. -/
def Ppu.enter (u : Ppu) (mode : PpuMode) (line : Byte) : Ppu := { u with mode := mode, line := line }

/-- What the end of the current mode does (R410 to R413), one arm of the loop of R414, with the framebuffers it presents:
the one `present()` event carries the framebuffer as it stands (R422, D39). -/
def Ppu.endMode (sh : Shades) (m : Memory) (u : Ppu) : Ppu × List Framebuffer :=
  let v := u.consume
  match u.mode with
  | .oamScan => (v.enter .pixelTransfer v.line, [])
  | .pixelTransfer => ((renderScanline sh m v).enter .hBlank v.line, [])
  | .hBlank =>
    let line := v.line + 1
    if line = 143#8 then (v.enter .vBlank line, [v.framebuffer]) else (v.enter .oamScan line, [])
  | .vBlank =>
    let line := v.line + 1
    if 153 < line.toNat then (v.enter .oamScan 0, []) else (v.enter .vBlank line, [])

/-- The loop of R414, run at most `fuel` times, with the framebuffers it presents, oldest first. -/
def Ppu.runModes (sh : Shades) (m : Memory) : Nat → Ppu → Ppu × List Framebuffer
  | 0, u => (u, [])
  | fuel + 1, u =>
    if modeLength u.mode ≤ u.counter then
      let e := u.endMode sh m
      let r := Ppu.runModes sh m fuel e.1
      (r.1, e.2 ++ r.2)
    else (u, [])

/-- `counter <- counter + n`. -/
def Ppu.advance (u : Ppu) (n : Nat) : Ppu := { u with counter := u.counter + n }

/-- `tick(n)` (R414). Every turn of the loop takes at least 80 off the counter, so counter/80 turns reach its exit (Log 19). -/
def Ppu.tick (sh : Shades) (m : Memory) (n : Nat) (u : Ppu) : Ppu × List Framebuffer :=
  let v := u.advance n
  Ppu.runModes sh m (v.counter / 80) v

/-- `PPU.tick(n)` as the run loop calls it (60_exceptions.md R503): the PPU advances and its presents are recorded. -/
def ppuTick (n : Nat) (s : State) : State :=
  let r := s.ppu.tick s.cfg.shade s.mem n
  { s with ppu := r.1, presents := s.presents ++ r.2 }

end Sys2Proof.Machine
end

