-- ==== Sys2Proof/Machine/RunLoop.lean ====
section
/-! DEFINITION. The part of the run loop around an instruction's own effect (60_exceptions.md R500 steps 5 to 7): its
cost, the PPU tick, the interrupt sample, and the recovery from an error. -/

namespace Sys2Proof.Machine

/-- The `COST` of a row and outcome (R503, R570): the parameter's entry if there is one, else the default of the rule. -/
def costOf (p : Params) (row : OpRow) (ch : Charge) : Nat :=
  match p.costs.find? (fun e => decide (e.row = row) && decide (e.taken = ch.taken)) with
  | some e => e.cost
  | none => ch.base

/-- Step 5 (R503): the cost goes to the clock and to the PPU. -/
def reportCost (c : Nat) (s : State) : State :=
  ppuTick (s.cfg.tickScale * c) { s with clock := s.clock + c }

/-- Step 6 (R513): read 0xFF0F and discard the value; if it raises, log it (R509). -/
def sampleInterrupt (op : Byte) (a : Word) (s : State) : State :=
  if s.interruptsEnabled then
    match readByte 0xFF0F#16 s with
    | .ok _ t => t
    | .error e t => takeError e (some op) a t
  else s

/-- Steps 5 and 6 after an instruction of a row at address `a` has completed with a charge. -/
def retire (row : OpRow) (a : Word) (ch : Charge) (s : State) : State :=
  sampleInterrupt (opcodeByte row) a (reportCost (costOf s.cfg row ch) s)

/-- Execute an instruction's own effect (R500 from step 4 on). `pc` has passed the instruction's `len` bytes, so the
instruction's address is `pc − len` (Log 8). If the effect raises, R505 applies. -/
def complete (row : OpRow) (len : Nat) (effect : Exec Charge) (s : State) : Outcome :=
  let a := s.pc - BitVec.ofNat 16 len
  match effect s with
  | .ok ch t => .next (retire row a ch t)
  | .error e t => .next (takeError e (some (opcodeByte row)) a t)

end Sys2Proof.Machine
end

