-- ==== Sys2Proof/Machine/Arith16.lean ====
section
/-! DEFINITION. The 16-bit arithmetic instructions (44_arith16.md). The operand bytes have been fetched before an effect runs (Log 8).
The rows of the table follow the shared effects, one definition a row. -/

namespace Sys2Proof.Machine

/-- `rr <- ALU.incWord(rr)`, flags written (R280). -/
def incReg16 (r : Reg16) : Exec Charge := do
  updates (fun s =>
    let q := Alu.incWord s.flags (s.reg16 r)
    (s.setFlags q.2).setReg16 r q.1)
  return charge 1

/-- `rr <- ALU.decWord(rr)`, flags written (R281). -/
def decReg16 (r : Reg16) : Exec Charge := do
  updates (fun s =>
    let q := Alu.decWord s.flags (s.reg16 r)
    (s.setFlags q.2).setReg16 r q.1)
  return charge 1

/-- `xx[HL] <- ALU.addWords(xx[HL], v)` (R282). -/
def addHL (r : Reg16) : Exec Charge := do
  updates (fun s =>
    let q := Alu.addWords s.flags (s.pair .HL) (s.reg16 r)
    (s.setFlags q.2).setPair .HL q.1)
  return charge 2

/-- `sp <- ALU.addWords(sp, sext_16(e))` (R283). -/
def addSPe (e : Byte) : Exec Charge := do
  updates (fun s =>
    let q := Alu.addWords s.flags s.sp (sext16 e)
    (s.setFlags q.2).setSp q.1)
  return charge 3

/-! ## The rows -/

/-- 0x03 `INC BC` (R280). -/
def execInc_BC (s : State) : Outcome := complete (.primary 0x03) 1 (incReg16 (.pair .BC)) s

/-- 0x09 `ADD HL,BC` (R282). -/
def execAdd_HL_BC (s : State) : Outcome := complete (.primary 0x09) 1 (addHL (.pair .BC)) s

/-- 0x0B `DEC BC` (R281). -/
def execDec_BC (s : State) : Outcome := complete (.primary 0x0B) 1 (decReg16 (.pair .BC)) s

/-- 0x13 `INC DE` (R280). -/
def execInc_DE (s : State) : Outcome := complete (.primary 0x13) 1 (incReg16 (.pair .DE)) s

/-- 0x19 `ADD HL,DE` (R282). -/
def execAdd_HL_DE (s : State) : Outcome := complete (.primary 0x19) 1 (addHL (.pair .DE)) s

/-- 0x1B `DEC DE` (R281). -/
def execDec_DE (s : State) : Outcome := complete (.primary 0x1B) 1 (decReg16 (.pair .DE)) s

/-- 0x23 `INC HL` (R280). -/
def execInc_HL (s : State) : Outcome := complete (.primary 0x23) 1 (incReg16 (.pair .HL)) s

/-- 0x29 `ADD HL,HL` (R282). -/
def execAdd_HL_HL (s : State) : Outcome := complete (.primary 0x29) 1 (addHL (.pair .HL)) s

/-- 0x2B `DEC HL` (R281). -/
def execDec_HL (s : State) : Outcome := complete (.primary 0x2B) 1 (decReg16 (.pair .HL)) s

/-- 0x33 `INC SP` (R280). -/
def execInc_SP (s : State) : Outcome := complete (.primary 0x33) 1 (incReg16 .SP) s

/-- 0x39 `ADD HL,SP` (R282). -/
def execAdd_HL_SP (s : State) : Outcome := complete (.primary 0x39) 1 (addHL .SP) s

/-- 0x3B `DEC SP` (R281). -/
def execDec_SP (s : State) : Outcome := complete (.primary 0x3B) 1 (decReg16 .SP) s

/-- 0xE8 `ADD SP,e` (R283). -/
def execAdd_SP_e (e : Byte) (s : State) : Outcome := complete (.primary 0xE8) 2 (addSPe e) s

end Sys2Proof.Machine
end

