-- ==== Sys2Proof/Machine/Arith8.lean ====
section
/-! DEFINITION. The 8-bit arithmetic and logic instructions (43_arith8.md): each reads its operands, calls one ALU primitive
of Machine/Flags.lean and stores the result. The operand bytes have been fetched before an effect runs (Log 8).
The rows of the table follow the shared effects, one definition a row. -/

namespace Sys2Proof.Machine

/-- `v <- operand(s); x[A] <- ALU.op(x[A], v)` (R250 to R257). -/
def accumulate (op : AccOp) (src : Source) : Exec Charge := do
  let v ← readSource src
  updates (fun s =>
    let r := Alu.accumulate op s.flags (s.reg .A) v
    (s.setFlags r.2).setReg .A r.1)
  return charge (sourceCost src)

/-- `INC r`, `INC (HL)` (R258, R259). -/
def incOperand (o : Operand8) : Exec Charge := do
  modifyOperand o Alu.incByte
  return charge (operandCost 1 3 o)

/-- `DEC r`, `DEC (HL)` (R260, R261). -/
def decOperand (o : Operand8) : Exec Charge := do
  modifyOperand o Alu.decByte
  return charge (operandCost 1 3 o)

/-- An accumulator instruction without a source operand: `x[A] <- ALU.f(x[A])` (R262, R265 to R268). -/
def modifyA (f : Flags → Byte → Byte × Flags) : Exec Charge := do
  modifyOperand (.reg .A) f
  return charge 1

/-- `ALU.setCarry()` (R263). -/
def setCarryFlag : Exec Charge := do
  updates (fun s => s.setFlags (Alu.setCarry s.flags))
  return charge 1

/-- `CCF` in either `CCF_MODE` (R264). -/
def complementCarryFlag : Exec Charge := do
  updates (fun s =>
    match s.cfg.ccfMode with
    | .toggle => s.setFlags (if s.flags.fC then Alu.clearCarry s.flags else Alu.setCarry s.flags)
    | .clear => s.setFlags (Alu.clearCarry s.flags))
  return charge 1

/-- `raise UnsupportedOpcodeError` (R269, R366, R506). -/
def unsupported : Exec Charge := raise .unsupportedOpcode

/-! ## The rows -/

/-- 0x04 `INC B` (R258). -/
def execInc_B (s : State) : Outcome := complete (.primary 0x04) 1 (incOperand (.reg .B)) s

/-- 0x05 `DEC B` (R260). -/
def execDec_B (s : State) : Outcome := complete (.primary 0x05) 1 (decOperand (.reg .B)) s

/-- 0x07 `RLCA` (R265). -/
def execRlca (s : State) : Outcome := complete (.primary 0x07) 1 (modifyA Alu.rotateLeftCarry) s

/-- 0x0C `INC C` (R258). -/
def execInc_C (s : State) : Outcome := complete (.primary 0x0C) 1 (incOperand (.reg .C)) s

/-- 0x0D `DEC C` (R260). -/
def execDec_C (s : State) : Outcome := complete (.primary 0x0D) 1 (decOperand (.reg .C)) s

/-- 0x0F `RRCA` (R266). -/
def execRrca (s : State) : Outcome := complete (.primary 0x0F) 1 (modifyA Alu.rotateRightCarry) s

/-- 0x14 `INC D` (R258). -/
def execInc_D (s : State) : Outcome := complete (.primary 0x14) 1 (incOperand (.reg .D)) s

/-- 0x15 `DEC D` (R260). -/
def execDec_D (s : State) : Outcome := complete (.primary 0x15) 1 (decOperand (.reg .D)) s

/-- 0x17 `RLA` (R267). -/
def execRla (s : State) : Outcome := complete (.primary 0x17) 1 (modifyA Alu.rotateLeft) s

/-- 0x1C `INC E` (R258). -/
def execInc_E (s : State) : Outcome := complete (.primary 0x1C) 1 (incOperand (.reg .E)) s

/-- 0x1D `DEC E` (R260). -/
def execDec_E (s : State) : Outcome := complete (.primary 0x1D) 1 (decOperand (.reg .E)) s

/-- 0x1F `RRA` (R268). -/
def execRra (s : State) : Outcome := complete (.primary 0x1F) 1 (modifyA Alu.rotateRight) s

/-- 0x24 `INC H` (R258). -/
def execInc_H (s : State) : Outcome := complete (.primary 0x24) 1 (incOperand (.reg .H)) s

/-- 0x25 `DEC H` (R260). -/
def execDec_H (s : State) : Outcome := complete (.primary 0x25) 1 (decOperand (.reg .H)) s

/-- 0x27 `DAA (unsupported)` (R269). -/
def execDaa (s : State) : Outcome := complete (.primary 0x27) 1 unsupported s

/-- 0x2C `INC L` (R258). -/
def execInc_L (s : State) : Outcome := complete (.primary 0x2C) 1 (incOperand (.reg .L)) s

/-- 0x2D `DEC L` (R260). -/
def execDec_L (s : State) : Outcome := complete (.primary 0x2D) 1 (decOperand (.reg .L)) s

/-- 0x2F `CPL` (R262). -/
def execCpl (s : State) : Outcome := complete (.primary 0x2F) 1 (modifyA Alu.complement) s

/-- 0x34 `INC (HL)` (R259). -/
def execInc_mHL (s : State) : Outcome := complete (.primary 0x34) 1 (incOperand .mHL) s

/-- 0x35 `DEC (HL)` (R261). -/
def execDec_mHL (s : State) : Outcome := complete (.primary 0x35) 1 (decOperand .mHL) s

/-- 0x37 `SCF` (R263). -/
def execScf (s : State) : Outcome := complete (.primary 0x37) 1 setCarryFlag s

/-- 0x3C `INC A` (R258). -/
def execInc_A (s : State) : Outcome := complete (.primary 0x3C) 1 (incOperand (.reg .A)) s

/-- 0x3D `DEC A` (R260). -/
def execDec_A (s : State) : Outcome := complete (.primary 0x3D) 1 (decOperand (.reg .A)) s

/-- 0x3F `CCF` (R264). -/
def execCcf (s : State) : Outcome := complete (.primary 0x3F) 1 complementCarryFlag s

/-- 0x80 `ADD A,B` (R250). -/
def execAdd_A_B (s : State) : Outcome := complete (.primary 0x80) 1 (accumulate .add (.op (.reg .B))) s

/-- 0x81 `ADD A,C` (R250). -/
def execAdd_A_C (s : State) : Outcome := complete (.primary 0x81) 1 (accumulate .add (.op (.reg .C))) s

/-- 0x82 `ADD A,D` (R250). -/
def execAdd_A_D (s : State) : Outcome := complete (.primary 0x82) 1 (accumulate .add (.op (.reg .D))) s

/-- 0x83 `ADD A,E` (R250). -/
def execAdd_A_E (s : State) : Outcome := complete (.primary 0x83) 1 (accumulate .add (.op (.reg .E))) s

/-- 0x84 `ADD A,H` (R250). -/
def execAdd_A_H (s : State) : Outcome := complete (.primary 0x84) 1 (accumulate .add (.op (.reg .H))) s

/-- 0x85 `ADD A,L` (R250). -/
def execAdd_A_L (s : State) : Outcome := complete (.primary 0x85) 1 (accumulate .add (.op (.reg .L))) s

/-- 0x86 `ADD A,(HL)` (R250). -/
def execAdd_A_mHL (s : State) : Outcome := complete (.primary 0x86) 1 (accumulate .add (.op .mHL)) s

/-- 0x87 `ADD A,A` (R250). -/
def execAdd_A_A (s : State) : Outcome := complete (.primary 0x87) 1 (accumulate .add (.op (.reg .A))) s

/-- 0x88 `ADC A,B` (R251). -/
def execAdc_A_B (s : State) : Outcome := complete (.primary 0x88) 1 (accumulate .adc (.op (.reg .B))) s

/-- 0x89 `ADC A,C` (R251). -/
def execAdc_A_C (s : State) : Outcome := complete (.primary 0x89) 1 (accumulate .adc (.op (.reg .C))) s

/-- 0x8A `ADC A,D` (R251). -/
def execAdc_A_D (s : State) : Outcome := complete (.primary 0x8A) 1 (accumulate .adc (.op (.reg .D))) s

/-- 0x8B `ADC A,E` (R251). -/
def execAdc_A_E (s : State) : Outcome := complete (.primary 0x8B) 1 (accumulate .adc (.op (.reg .E))) s

/-- 0x8C `ADC A,H` (R251). -/
def execAdc_A_H (s : State) : Outcome := complete (.primary 0x8C) 1 (accumulate .adc (.op (.reg .H))) s

/-- 0x8D `ADC A,L` (R251). -/
def execAdc_A_L (s : State) : Outcome := complete (.primary 0x8D) 1 (accumulate .adc (.op (.reg .L))) s

/-- 0x8E `ADC A,(HL)` (R251). -/
def execAdc_A_mHL (s : State) : Outcome := complete (.primary 0x8E) 1 (accumulate .adc (.op .mHL)) s

/-- 0x8F `ADC A,A` (R251). -/
def execAdc_A_A (s : State) : Outcome := complete (.primary 0x8F) 1 (accumulate .adc (.op (.reg .A))) s

/-- 0x90 `SUB A,B` (R252). -/
def execSub_A_B (s : State) : Outcome := complete (.primary 0x90) 1 (accumulate .sub (.op (.reg .B))) s

/-- 0x91 `SUB A,C` (R252). -/
def execSub_A_C (s : State) : Outcome := complete (.primary 0x91) 1 (accumulate .sub (.op (.reg .C))) s

/-- 0x92 `SUB A,D` (R252). -/
def execSub_A_D (s : State) : Outcome := complete (.primary 0x92) 1 (accumulate .sub (.op (.reg .D))) s

/-- 0x93 `SUB A,E` (R252). -/
def execSub_A_E (s : State) : Outcome := complete (.primary 0x93) 1 (accumulate .sub (.op (.reg .E))) s

/-- 0x94 `SUB A,H` (R252). -/
def execSub_A_H (s : State) : Outcome := complete (.primary 0x94) 1 (accumulate .sub (.op (.reg .H))) s

/-- 0x95 `SUB A,L` (R252). -/
def execSub_A_L (s : State) : Outcome := complete (.primary 0x95) 1 (accumulate .sub (.op (.reg .L))) s

/-- 0x96 `SUB A,(HL)` (R252). -/
def execSub_A_mHL (s : State) : Outcome := complete (.primary 0x96) 1 (accumulate .sub (.op .mHL)) s

/-- 0x97 `SUB A,A` (R252). -/
def execSub_A_A (s : State) : Outcome := complete (.primary 0x97) 1 (accumulate .sub (.op (.reg .A))) s

/-- 0x98 `SBC A,B` (R253). -/
def execSbc_A_B (s : State) : Outcome := complete (.primary 0x98) 1 (accumulate .sbc (.op (.reg .B))) s

/-- 0x99 `SBC A,C` (R253). -/
def execSbc_A_C (s : State) : Outcome := complete (.primary 0x99) 1 (accumulate .sbc (.op (.reg .C))) s

/-- 0x9A `SBC A,D` (R253). -/
def execSbc_A_D (s : State) : Outcome := complete (.primary 0x9A) 1 (accumulate .sbc (.op (.reg .D))) s

/-- 0x9B `SBC A,E` (R253). -/
def execSbc_A_E (s : State) : Outcome := complete (.primary 0x9B) 1 (accumulate .sbc (.op (.reg .E))) s

/-- 0x9C `SBC A,H` (R253). -/
def execSbc_A_H (s : State) : Outcome := complete (.primary 0x9C) 1 (accumulate .sbc (.op (.reg .H))) s

/-- 0x9D `SBC A,L` (R253). -/
def execSbc_A_L (s : State) : Outcome := complete (.primary 0x9D) 1 (accumulate .sbc (.op (.reg .L))) s

/-- 0x9E `SBC A,(HL)` (R253). -/
def execSbc_A_mHL (s : State) : Outcome := complete (.primary 0x9E) 1 (accumulate .sbc (.op .mHL)) s

/-- 0x9F `SBC A,A` (R253). -/
def execSbc_A_A (s : State) : Outcome := complete (.primary 0x9F) 1 (accumulate .sbc (.op (.reg .A))) s

/-- 0xA0 `AND A,B` (R254). -/
def execAnd_A_B (s : State) : Outcome := complete (.primary 0xA0) 1 (accumulate .and (.op (.reg .B))) s

/-- 0xA1 `AND A,C` (R254). -/
def execAnd_A_C (s : State) : Outcome := complete (.primary 0xA1) 1 (accumulate .and (.op (.reg .C))) s

/-- 0xA2 `AND A,D` (R254). -/
def execAnd_A_D (s : State) : Outcome := complete (.primary 0xA2) 1 (accumulate .and (.op (.reg .D))) s

/-- 0xA3 `AND A,E` (R254). -/
def execAnd_A_E (s : State) : Outcome := complete (.primary 0xA3) 1 (accumulate .and (.op (.reg .E))) s

/-- 0xA4 `AND A,H` (R254). -/
def execAnd_A_H (s : State) : Outcome := complete (.primary 0xA4) 1 (accumulate .and (.op (.reg .H))) s

/-- 0xA5 `AND A,L` (R254). -/
def execAnd_A_L (s : State) : Outcome := complete (.primary 0xA5) 1 (accumulate .and (.op (.reg .L))) s

/-- 0xA6 `AND A,(HL)` (R254). -/
def execAnd_A_mHL (s : State) : Outcome := complete (.primary 0xA6) 1 (accumulate .and (.op .mHL)) s

/-- 0xA7 `AND A,A` (R254). -/
def execAnd_A_A (s : State) : Outcome := complete (.primary 0xA7) 1 (accumulate .and (.op (.reg .A))) s

/-- 0xA8 `XOR A,B` (R255). -/
def execXor_A_B (s : State) : Outcome := complete (.primary 0xA8) 1 (accumulate .xor (.op (.reg .B))) s

/-- 0xA9 `XOR A,C` (R255). -/
def execXor_A_C (s : State) : Outcome := complete (.primary 0xA9) 1 (accumulate .xor (.op (.reg .C))) s

/-- 0xAA `XOR A,D` (R255). -/
def execXor_A_D (s : State) : Outcome := complete (.primary 0xAA) 1 (accumulate .xor (.op (.reg .D))) s

/-- 0xAB `XOR A,E` (R255). -/
def execXor_A_E (s : State) : Outcome := complete (.primary 0xAB) 1 (accumulate .xor (.op (.reg .E))) s

/-- 0xAC `XOR A,H` (R255). -/
def execXor_A_H (s : State) : Outcome := complete (.primary 0xAC) 1 (accumulate .xor (.op (.reg .H))) s

/-- 0xAD `XOR A,L` (R255). -/
def execXor_A_L (s : State) : Outcome := complete (.primary 0xAD) 1 (accumulate .xor (.op (.reg .L))) s

/-- 0xAE `XOR A,(HL)` (R255). -/
def execXor_A_mHL (s : State) : Outcome := complete (.primary 0xAE) 1 (accumulate .xor (.op .mHL)) s

/-- 0xAF `XOR A,A` (R255). -/
def execXor_A_A (s : State) : Outcome := complete (.primary 0xAF) 1 (accumulate .xor (.op (.reg .A))) s

/-- 0xB0 `OR A,B` (R256). -/
def execOr_A_B (s : State) : Outcome := complete (.primary 0xB0) 1 (accumulate .or (.op (.reg .B))) s

/-- 0xB1 `OR A,C` (R256). -/
def execOr_A_C (s : State) : Outcome := complete (.primary 0xB1) 1 (accumulate .or (.op (.reg .C))) s

/-- 0xB2 `OR A,D` (R256). -/
def execOr_A_D (s : State) : Outcome := complete (.primary 0xB2) 1 (accumulate .or (.op (.reg .D))) s

/-- 0xB3 `OR A,E` (R256). -/
def execOr_A_E (s : State) : Outcome := complete (.primary 0xB3) 1 (accumulate .or (.op (.reg .E))) s

/-- 0xB4 `OR A,H` (R256). -/
def execOr_A_H (s : State) : Outcome := complete (.primary 0xB4) 1 (accumulate .or (.op (.reg .H))) s

/-- 0xB5 `OR A,L` (R256). -/
def execOr_A_L (s : State) : Outcome := complete (.primary 0xB5) 1 (accumulate .or (.op (.reg .L))) s

/-- 0xB6 `OR A,(HL)` (R256). -/
def execOr_A_mHL (s : State) : Outcome := complete (.primary 0xB6) 1 (accumulate .or (.op .mHL)) s

/-- 0xB7 `OR A,A` (R256). -/
def execOr_A_A (s : State) : Outcome := complete (.primary 0xB7) 1 (accumulate .or (.op (.reg .A))) s

/-- 0xB8 `CP A,B` (R257). -/
def execCp_A_B (s : State) : Outcome := complete (.primary 0xB8) 1 (accumulate .cp (.op (.reg .B))) s

/-- 0xB9 `CP A,C` (R257). -/
def execCp_A_C (s : State) : Outcome := complete (.primary 0xB9) 1 (accumulate .cp (.op (.reg .C))) s

/-- 0xBA `CP A,D` (R257). -/
def execCp_A_D (s : State) : Outcome := complete (.primary 0xBA) 1 (accumulate .cp (.op (.reg .D))) s

/-- 0xBB `CP A,E` (R257). -/
def execCp_A_E (s : State) : Outcome := complete (.primary 0xBB) 1 (accumulate .cp (.op (.reg .E))) s

/-- 0xBC `CP A,H` (R257). -/
def execCp_A_H (s : State) : Outcome := complete (.primary 0xBC) 1 (accumulate .cp (.op (.reg .H))) s

/-- 0xBD `CP A,L` (R257). -/
def execCp_A_L (s : State) : Outcome := complete (.primary 0xBD) 1 (accumulate .cp (.op (.reg .L))) s

/-- 0xBE `CP A,(HL)` (R257). -/
def execCp_A_mHL (s : State) : Outcome := complete (.primary 0xBE) 1 (accumulate .cp (.op .mHL)) s

/-- 0xBF `CP A,A` (R257). -/
def execCp_A_A (s : State) : Outcome := complete (.primary 0xBF) 1 (accumulate .cp (.op (.reg .A))) s

/-- 0xC6 `ADD A,n` (R250). -/
def execAdd_A_n (n : Byte) (s : State) : Outcome := complete (.primary 0xC6) 2 (accumulate .add (.imm n)) s

/-- 0xCE `ADC A,n` (R251). -/
def execAdc_A_n (n : Byte) (s : State) : Outcome := complete (.primary 0xCE) 2 (accumulate .adc (.imm n)) s

/-- 0xD6 `SUB A,n` (R252). -/
def execSub_A_n (n : Byte) (s : State) : Outcome := complete (.primary 0xD6) 2 (accumulate .sub (.imm n)) s

/-- 0xDE `SBC A,n` (R253). -/
def execSbc_A_n (n : Byte) (s : State) : Outcome := complete (.primary 0xDE) 2 (accumulate .sbc (.imm n)) s

/-- 0xE6 `AND A,n` (R254). -/
def execAnd_A_n (n : Byte) (s : State) : Outcome := complete (.primary 0xE6) 2 (accumulate .and (.imm n)) s

/-- 0xEE `XOR A,n` (R255). -/
def execXor_A_n (n : Byte) (s : State) : Outcome := complete (.primary 0xEE) 2 (accumulate .xor (.imm n)) s

/-- 0xF6 `OR A,n` (R256). -/
def execOr_A_n (n : Byte) (s : State) : Outcome := complete (.primary 0xF6) 2 (accumulate .or (.imm n)) s

/-- 0xFE `CP A,n` (R257). -/
def execCp_A_n (n : Byte) (s : State) : Outcome := complete (.primary 0xFE) 2 (accumulate .cp (.imm n)) s

end Sys2Proof.Machine
end

