-- ==== Sys2Proof/Machine/Control.lean ====
section
/-! DEFINITION. Jumps, calls, returns and restarts (45_control.md). `pc` has passed the whole instruction when an effect runs. The operand bytes have been fetched before an effect runs (Log 8).
The rows of the table follow the shared effects, one definition a row. -/

namespace Sys2Proof.Machine

/-- `pc <- target` (R301, R303). -/
def jump (target : State → Word) (cost : Nat) : Exec Charge := do
  updates (fun s => s.setPc (target s))
  return charge cost

/-- `if cond(cc) then pc <- nn` (R302). -/
def jumpIf (cc : Cond) (nn : Word) : Exec Charge := do
  let yes ← reads (·.flags.holds cc)
  if yes then
    updates (·.setPc nn)
    return ⟨true, 3⟩
  else
    return ⟨false, 3⟩

/-- `(pc + signed(e)) mod 65536` (R304). -/
def relativeTarget (pc : Word) (e : Byte) : Word := BitVec.ofInt 16 ((pc.toNat : Int) + signedByte e)

/-- `JR e` (R304). -/
def jumpRelative (e : Byte) : Exec Charge := do
  updates (fun s => s.setPc (relativeTarget s.pc e))
  return charge 2

/-- `JR cc,e` (R305). -/
def jumpRelativeIf (cc : Cond) (e : Byte) : Exec Charge := do
  let yes ← reads (·.flags.holds cc)
  if yes then
    updates (fun s => s.setPc (relativeTarget s.pc e))
    return ⟨true, 2⟩
  else
    return ⟨false, 2⟩

/-- Push `pc`, then `pc <- target`: the transfer of `CALL` and `RST` (R306, R311). -/
def callTo (target : Word) : Exec Unit := do
  let ret ← reads (·.pc)
  pushWord ret
  updates (·.setPc target)

/-- `CALL nn` (R306). -/
def call (nn : Word) : Exec Charge := do
  callTo nn
  return charge 5

/-- `CALL cc,nn` (R307). -/
def callIf (cc : Cond) (nn : Word) : Exec Charge := do
  let yes ← reads (·.flags.holds cc)
  if yes then
    callTo nn
    return ⟨true, 5⟩
  else
    return ⟨false, 3⟩

/-- `pc <- MemRead(sp, 2); sp <- (sp + 2) mod 65536` (R308). -/
def popPc : Exec Unit := do
  let v ← popWord
  updates (·.setPc v)

/-- `RET` (R308). -/
def ret : Exec Charge := do
  popPc
  return charge 4

/-- `RET cc` (R309). -/
def retIf (cc : Cond) : Exec Charge := do
  let yes ← reads (·.flags.holds cc)
  if yes then
    popPc
    return ⟨true, 5⟩
  else
    return ⟨false, 3⟩

/-- `RETI` (R310): `interruptsEnabled` stays as it was when the pop raises. -/
def reti : Exec Charge := do
  popPc
  updates (fun s => { s with interruptsEnabled := true })
  return charge 4

/-- `RST t` (R311). -/
def restart (t : Word) : Exec Charge := do
  callTo t
  return charge 3

/-! ## The rows -/

/-- 0x18 `JR e` (R304). -/
def execJr_e (e : Byte) (s : State) : Outcome := complete (.primary 0x18) 2 (jumpRelative e) s

/-- 0x20 `JR NZ,e` (R305). -/
def execJr_NZ_e (e : Byte) (s : State) : Outcome := complete (.primary 0x20) 2 (jumpRelativeIf .NZ e) s

/-- 0x28 `JR Z,e` (R305). -/
def execJr_Z_e (e : Byte) (s : State) : Outcome := complete (.primary 0x28) 2 (jumpRelativeIf .Z e) s

/-- 0x30 `JR NC,e` (R305). -/
def execJr_NC_e (e : Byte) (s : State) : Outcome := complete (.primary 0x30) 2 (jumpRelativeIf .NC e) s

/-- 0x38 `JR C,e` (R305). -/
def execJr_C_e (e : Byte) (s : State) : Outcome := complete (.primary 0x38) 2 (jumpRelativeIf .C e) s

/-- 0xC0 `RET NZ` (R309). -/
def execRet_NZ (s : State) : Outcome := complete (.primary 0xC0) 1 (retIf .NZ) s

/-- 0xC2 `JP NZ,nn` (R302). -/
def execJp_NZ_nn (nn : Word) (s : State) : Outcome := complete (.primary 0xC2) 3 (jumpIf .NZ nn) s

/-- 0xC3 `JP nn` (R301). -/
def execJp_nn (nn : Word) (s : State) : Outcome := complete (.primary 0xC3) 3 (jump (fun _ => nn) 3) s

/-- 0xC4 `CALL NZ,nn` (R307). -/
def execCall_NZ_nn (nn : Word) (s : State) : Outcome := complete (.primary 0xC4) 3 (callIf .NZ nn) s

/-- 0xC7 `RST 00H` (R311). -/
def execRst_00H (s : State) : Outcome := complete (.primary 0xC7) 1 (restart 0x00) s

/-- 0xC8 `RET Z` (R309). -/
def execRet_Z (s : State) : Outcome := complete (.primary 0xC8) 1 (retIf .Z) s

/-- 0xC9 `RET` (R308). -/
def execRet (s : State) : Outcome := complete (.primary 0xC9) 1 ret s

/-- 0xCA `JP Z,nn` (R302). -/
def execJp_Z_nn (nn : Word) (s : State) : Outcome := complete (.primary 0xCA) 3 (jumpIf .Z nn) s

/-- 0xCC `CALL Z,nn` (R307). -/
def execCall_Z_nn (nn : Word) (s : State) : Outcome := complete (.primary 0xCC) 3 (callIf .Z nn) s

/-- 0xCD `CALL nn` (R306). -/
def execCall_nn (nn : Word) (s : State) : Outcome := complete (.primary 0xCD) 3 (call nn) s

/-- 0xCF `RST 08H` (R311). -/
def execRst_08H (s : State) : Outcome := complete (.primary 0xCF) 1 (restart 0x08) s

/-- 0xD0 `RET NC` (R309). -/
def execRet_NC (s : State) : Outcome := complete (.primary 0xD0) 1 (retIf .NC) s

/-- 0xD2 `JP NC,nn` (R302). -/
def execJp_NC_nn (nn : Word) (s : State) : Outcome := complete (.primary 0xD2) 3 (jumpIf .NC nn) s

/-- 0xD4 `CALL NC,nn` (R307). -/
def execCall_NC_nn (nn : Word) (s : State) : Outcome := complete (.primary 0xD4) 3 (callIf .NC nn) s

/-- 0xD7 `RST 10H` (R311). -/
def execRst_10H (s : State) : Outcome := complete (.primary 0xD7) 1 (restart 0x10) s

/-- 0xD8 `RET C` (R309). -/
def execRet_C (s : State) : Outcome := complete (.primary 0xD8) 1 (retIf .C) s

/-- 0xD9 `RETI` (R310). -/
def execReti (s : State) : Outcome := complete (.primary 0xD9) 1 reti s

/-- 0xDA `JP C,nn` (R302). -/
def execJp_C_nn (nn : Word) (s : State) : Outcome := complete (.primary 0xDA) 3 (jumpIf .C nn) s

/-- 0xDC `CALL C,nn` (R307). -/
def execCall_C_nn (nn : Word) (s : State) : Outcome := complete (.primary 0xDC) 3 (callIf .C nn) s

/-- 0xDF `RST 18H` (R311). -/
def execRst_18H (s : State) : Outcome := complete (.primary 0xDF) 1 (restart 0x18) s

/-- 0xE7 `RST 20H` (R311). -/
def execRst_20H (s : State) : Outcome := complete (.primary 0xE7) 1 (restart 0x20) s

/-- 0xE9 `JP (HL)` (R303). -/
def execJp_mHL (s : State) : Outcome := complete (.primary 0xE9) 1 (jump (·.pair .HL) 1) s

/-- 0xEF `RST 28H` (R311). -/
def execRst_28H (s : State) : Outcome := complete (.primary 0xEF) 1 (restart 0x28) s

/-- 0xF7 `RST 30H` (R311). -/
def execRst_30H (s : State) : Outcome := complete (.primary 0xF7) 1 (restart 0x30) s

/-- 0xFF `RST 38H` (R311). -/
def execRst_38H (s : State) : Outcome := complete (.primary 0xFF) 1 (restart 0x38) s

end Sys2Proof.Machine
end

