-- ==== Sys2Proof/Machine/Extended.lean ====
section
/-! DEFINITION. The extended instructions (46_cb.md) and the primary row of their prefix (47_system.md R365). The operand bytes have been fetched before an effect runs (Log 8).
The rows of the table follow the shared effects, one definition a row. -/

namespace Sys2Proof.Machine

/-- Rotate, shift or swap an operand (R330 to R338). -/
def rotateOperand (op : RotOp) (o : Operand8) : Exec Charge := do
  modifyOperand o (Alu.rotate op)
  return charge (operandCost 2 4 o)

/-- `BIT b,s` (R339): the operand is read and not written back. -/
def testBit (b : Fin 8) (o : Operand8) : Exec Charge := do
  let v ← readOperand o
  updates (fun s => s.setFlags (Alu.bitTest s.flags b v))
  return charge (operandCost 2 3 o)

/-- `RES b,s` (R340): written back even when unchanged. -/
def clearBit (b : Fin 8) (o : Operand8) : Exec Charge := do
  modifyOperand o (fun f v => (Alu.resetBit b v, f))
  return charge (operandCost 2 4 o)

/-- `SET b,s` (R341): written back even when unchanged. -/
def raiseBit (b : Fin 8) (o : Operand8) : Exec Charge := do
  modifyOperand o (fun f v => (Alu.setBit b v, f))
  return charge (operandCost 2 4 o)

/-- The operand `r[z]` of an extended instruction, `z = sub[2:0]` (R112). -/
def operandOfCode (z : Nat) : Operand8 :=
  match z with
  | 0 => .reg .B
  | 1 => .reg .C
  | 2 => .reg .D
  | 3 => .reg .E
  | 4 => .reg .H
  | 5 => .reg .L
  | 6 => .mHL
  | _ => .reg .A

/-- The operation `sub[5:3]` of the range 0x00–0x3F (R114). -/
def rotOpOfCode (y : Nat) : RotOp :=
  match y with
  | 0 => .rlc
  | 1 => .rrc
  | 2 => .rl
  | 3 => .rr
  | 4 => .sla
  | 5 => .sra
  | 6 => .swap
  | _ => .srl

/-- The effect of the extended instruction of a second byte, by the fields of R111 to R114. -/
def extendedEffect (sub : Byte) : Exec Charge :=
  let o := operandOfCode (sub.toNat % 8)
  let b : Fin 8 := ⟨sub.toNat / 8 % 8, Nat.mod_lt _ (by decide)⟩
  match sub.toNat / 64 with
  | 0 => rotateOperand (rotOpOfCode b.val) o
  | 1 => testBit b o
  | 2 => clearBit b o
  | _ => raiseBit b o

/-- 0xCB `PREFIX CB` (R365): fetch the second byte at `pc` and run its extended row, which carries the whole cost (R330). The
decoder never yields this row alone (Log 9). -/
def execPrefix_CB (s : State) : Outcome :=
  match fetch8 s with
  | .ok sub t => complete (.extended sub) 2 (extendedEffect sub) t
  | .error e t => .next (takeError e (some 0xCB) (s.pc - 1) t)

/-! ## The rows -/

/-- 0xCB 0x00 `RLC B` (R331). -/
def execRlc_B (s : State) : Outcome := complete (.extended 0x00) 2 (rotateOperand .rlc (.reg .B)) s

/-- 0xCB 0x01 `RLC C` (R331). -/
def execRlc_C (s : State) : Outcome := complete (.extended 0x01) 2 (rotateOperand .rlc (.reg .C)) s

/-- 0xCB 0x02 `RLC D` (R331). -/
def execRlc_D (s : State) : Outcome := complete (.extended 0x02) 2 (rotateOperand .rlc (.reg .D)) s

/-- 0xCB 0x03 `RLC E` (R331). -/
def execRlc_E (s : State) : Outcome := complete (.extended 0x03) 2 (rotateOperand .rlc (.reg .E)) s

/-- 0xCB 0x04 `RLC H` (R331). -/
def execRlc_H (s : State) : Outcome := complete (.extended 0x04) 2 (rotateOperand .rlc (.reg .H)) s

/-- 0xCB 0x05 `RLC L` (R331). -/
def execRlc_L (s : State) : Outcome := complete (.extended 0x05) 2 (rotateOperand .rlc (.reg .L)) s

/-- 0xCB 0x06 `RLC (HL)` (R331). -/
def execRlc_mHL (s : State) : Outcome := complete (.extended 0x06) 2 (rotateOperand .rlc .mHL) s

/-- 0xCB 0x07 `RLC A` (R331). -/
def execRlc_A (s : State) : Outcome := complete (.extended 0x07) 2 (rotateOperand .rlc (.reg .A)) s

/-- 0xCB 0x08 `RRC B` (R332). -/
def execRrc_B (s : State) : Outcome := complete (.extended 0x08) 2 (rotateOperand .rrc (.reg .B)) s

/-- 0xCB 0x09 `RRC C` (R332). -/
def execRrc_C (s : State) : Outcome := complete (.extended 0x09) 2 (rotateOperand .rrc (.reg .C)) s

/-- 0xCB 0x0A `RRC D` (R332). -/
def execRrc_D (s : State) : Outcome := complete (.extended 0x0A) 2 (rotateOperand .rrc (.reg .D)) s

/-- 0xCB 0x0B `RRC E` (R332). -/
def execRrc_E (s : State) : Outcome := complete (.extended 0x0B) 2 (rotateOperand .rrc (.reg .E)) s

/-- 0xCB 0x0C `RRC H` (R332). -/
def execRrc_H (s : State) : Outcome := complete (.extended 0x0C) 2 (rotateOperand .rrc (.reg .H)) s

/-- 0xCB 0x0D `RRC L` (R332). -/
def execRrc_L (s : State) : Outcome := complete (.extended 0x0D) 2 (rotateOperand .rrc (.reg .L)) s

/-- 0xCB 0x0E `RRC (HL)` (R332). -/
def execRrc_mHL (s : State) : Outcome := complete (.extended 0x0E) 2 (rotateOperand .rrc .mHL) s

/-- 0xCB 0x0F `RRC A` (R332). -/
def execRrc_A (s : State) : Outcome := complete (.extended 0x0F) 2 (rotateOperand .rrc (.reg .A)) s

/-- 0xCB 0x10 `RL B` (R333). -/
def execRl_B (s : State) : Outcome := complete (.extended 0x10) 2 (rotateOperand .rl (.reg .B)) s

/-- 0xCB 0x11 `RL C` (R333). -/
def execRl_C (s : State) : Outcome := complete (.extended 0x11) 2 (rotateOperand .rl (.reg .C)) s

/-- 0xCB 0x12 `RL D` (R333). -/
def execRl_D (s : State) : Outcome := complete (.extended 0x12) 2 (rotateOperand .rl (.reg .D)) s

/-- 0xCB 0x13 `RL E` (R333). -/
def execRl_E (s : State) : Outcome := complete (.extended 0x13) 2 (rotateOperand .rl (.reg .E)) s

/-- 0xCB 0x14 `RL H` (R333). -/
def execRl_H (s : State) : Outcome := complete (.extended 0x14) 2 (rotateOperand .rl (.reg .H)) s

/-- 0xCB 0x15 `RL L` (R333). -/
def execRl_L (s : State) : Outcome := complete (.extended 0x15) 2 (rotateOperand .rl (.reg .L)) s

/-- 0xCB 0x16 `RL (HL)` (R333). -/
def execRl_mHL (s : State) : Outcome := complete (.extended 0x16) 2 (rotateOperand .rl .mHL) s

/-- 0xCB 0x17 `RL A` (R333). -/
def execRl_A (s : State) : Outcome := complete (.extended 0x17) 2 (rotateOperand .rl (.reg .A)) s

/-- 0xCB 0x18 `RR B` (R334). -/
def execRr_B (s : State) : Outcome := complete (.extended 0x18) 2 (rotateOperand .rr (.reg .B)) s

/-- 0xCB 0x19 `RR C` (R334). -/
def execRr_C (s : State) : Outcome := complete (.extended 0x19) 2 (rotateOperand .rr (.reg .C)) s

/-- 0xCB 0x1A `RR D` (R334). -/
def execRr_D (s : State) : Outcome := complete (.extended 0x1A) 2 (rotateOperand .rr (.reg .D)) s

/-- 0xCB 0x1B `RR E` (R334). -/
def execRr_E (s : State) : Outcome := complete (.extended 0x1B) 2 (rotateOperand .rr (.reg .E)) s

/-- 0xCB 0x1C `RR H` (R334). -/
def execRr_H (s : State) : Outcome := complete (.extended 0x1C) 2 (rotateOperand .rr (.reg .H)) s

/-- 0xCB 0x1D `RR L` (R334). -/
def execRr_L (s : State) : Outcome := complete (.extended 0x1D) 2 (rotateOperand .rr (.reg .L)) s

/-- 0xCB 0x1E `RR (HL)` (R334). -/
def execRr_mHL (s : State) : Outcome := complete (.extended 0x1E) 2 (rotateOperand .rr .mHL) s

/-- 0xCB 0x1F `RR A` (R334). -/
def execRr_A (s : State) : Outcome := complete (.extended 0x1F) 2 (rotateOperand .rr (.reg .A)) s

/-- 0xCB 0x20 `SLA B` (R335). -/
def execSla_B (s : State) : Outcome := complete (.extended 0x20) 2 (rotateOperand .sla (.reg .B)) s

/-- 0xCB 0x21 `SLA C` (R335). -/
def execSla_C (s : State) : Outcome := complete (.extended 0x21) 2 (rotateOperand .sla (.reg .C)) s

/-- 0xCB 0x22 `SLA D` (R335). -/
def execSla_D (s : State) : Outcome := complete (.extended 0x22) 2 (rotateOperand .sla (.reg .D)) s

/-- 0xCB 0x23 `SLA E` (R335). -/
def execSla_E (s : State) : Outcome := complete (.extended 0x23) 2 (rotateOperand .sla (.reg .E)) s

/-- 0xCB 0x24 `SLA H` (R335). -/
def execSla_H (s : State) : Outcome := complete (.extended 0x24) 2 (rotateOperand .sla (.reg .H)) s

/-- 0xCB 0x25 `SLA L` (R335). -/
def execSla_L (s : State) : Outcome := complete (.extended 0x25) 2 (rotateOperand .sla (.reg .L)) s

/-- 0xCB 0x26 `SLA (HL)` (R335). -/
def execSla_mHL (s : State) : Outcome := complete (.extended 0x26) 2 (rotateOperand .sla .mHL) s

/-- 0xCB 0x27 `SLA A` (R335). -/
def execSla_A (s : State) : Outcome := complete (.extended 0x27) 2 (rotateOperand .sla (.reg .A)) s

/-- 0xCB 0x28 `SRA B` (R336). -/
def execSra_B (s : State) : Outcome := complete (.extended 0x28) 2 (rotateOperand .sra (.reg .B)) s

/-- 0xCB 0x29 `SRA C` (R336). -/
def execSra_C (s : State) : Outcome := complete (.extended 0x29) 2 (rotateOperand .sra (.reg .C)) s

/-- 0xCB 0x2A `SRA D` (R336). -/
def execSra_D (s : State) : Outcome := complete (.extended 0x2A) 2 (rotateOperand .sra (.reg .D)) s

/-- 0xCB 0x2B `SRA E` (R336). -/
def execSra_E (s : State) : Outcome := complete (.extended 0x2B) 2 (rotateOperand .sra (.reg .E)) s

/-- 0xCB 0x2C `SRA H` (R336). -/
def execSra_H (s : State) : Outcome := complete (.extended 0x2C) 2 (rotateOperand .sra (.reg .H)) s

/-- 0xCB 0x2D `SRA L` (R336). -/
def execSra_L (s : State) : Outcome := complete (.extended 0x2D) 2 (rotateOperand .sra (.reg .L)) s

/-- 0xCB 0x2E `SRA (HL)` (R336). -/
def execSra_mHL (s : State) : Outcome := complete (.extended 0x2E) 2 (rotateOperand .sra .mHL) s

/-- 0xCB 0x2F `SRA A` (R336). -/
def execSra_A (s : State) : Outcome := complete (.extended 0x2F) 2 (rotateOperand .sra (.reg .A)) s

/-- 0xCB 0x30 `SWAP B` (R337). -/
def execSwap_B (s : State) : Outcome := complete (.extended 0x30) 2 (rotateOperand .swap (.reg .B)) s

/-- 0xCB 0x31 `SWAP C` (R337). -/
def execSwap_C (s : State) : Outcome := complete (.extended 0x31) 2 (rotateOperand .swap (.reg .C)) s

/-- 0xCB 0x32 `SWAP D` (R337). -/
def execSwap_D (s : State) : Outcome := complete (.extended 0x32) 2 (rotateOperand .swap (.reg .D)) s

/-- 0xCB 0x33 `SWAP E` (R337). -/
def execSwap_E (s : State) : Outcome := complete (.extended 0x33) 2 (rotateOperand .swap (.reg .E)) s

/-- 0xCB 0x34 `SWAP H` (R337). -/
def execSwap_H (s : State) : Outcome := complete (.extended 0x34) 2 (rotateOperand .swap (.reg .H)) s

/-- 0xCB 0x35 `SWAP L` (R337). -/
def execSwap_L (s : State) : Outcome := complete (.extended 0x35) 2 (rotateOperand .swap (.reg .L)) s

/-- 0xCB 0x36 `SWAP (HL)` (R337). -/
def execSwap_mHL (s : State) : Outcome := complete (.extended 0x36) 2 (rotateOperand .swap .mHL) s

/-- 0xCB 0x37 `SWAP A` (R337). -/
def execSwap_A (s : State) : Outcome := complete (.extended 0x37) 2 (rotateOperand .swap (.reg .A)) s

/-- 0xCB 0x38 `SRL B` (R338). -/
def execSrl_B (s : State) : Outcome := complete (.extended 0x38) 2 (rotateOperand .srl (.reg .B)) s

/-- 0xCB 0x39 `SRL C` (R338). -/
def execSrl_C (s : State) : Outcome := complete (.extended 0x39) 2 (rotateOperand .srl (.reg .C)) s

/-- 0xCB 0x3A `SRL D` (R338). -/
def execSrl_D (s : State) : Outcome := complete (.extended 0x3A) 2 (rotateOperand .srl (.reg .D)) s

/-- 0xCB 0x3B `SRL E` (R338). -/
def execSrl_E (s : State) : Outcome := complete (.extended 0x3B) 2 (rotateOperand .srl (.reg .E)) s

/-- 0xCB 0x3C `SRL H` (R338). -/
def execSrl_H (s : State) : Outcome := complete (.extended 0x3C) 2 (rotateOperand .srl (.reg .H)) s

/-- 0xCB 0x3D `SRL L` (R338). -/
def execSrl_L (s : State) : Outcome := complete (.extended 0x3D) 2 (rotateOperand .srl (.reg .L)) s

/-- 0xCB 0x3E `SRL (HL)` (R338). -/
def execSrl_mHL (s : State) : Outcome := complete (.extended 0x3E) 2 (rotateOperand .srl .mHL) s

/-- 0xCB 0x3F `SRL A` (R338). -/
def execSrl_A (s : State) : Outcome := complete (.extended 0x3F) 2 (rotateOperand .srl (.reg .A)) s

/-- 0xCB 0x40 `BIT 0,B` (R339). -/
def execBit_0_B (s : State) : Outcome := complete (.extended 0x40) 2 (testBit 0 (.reg .B)) s

/-- 0xCB 0x41 `BIT 0,C` (R339). -/
def execBit_0_C (s : State) : Outcome := complete (.extended 0x41) 2 (testBit 0 (.reg .C)) s

/-- 0xCB 0x42 `BIT 0,D` (R339). -/
def execBit_0_D (s : State) : Outcome := complete (.extended 0x42) 2 (testBit 0 (.reg .D)) s

/-- 0xCB 0x43 `BIT 0,E` (R339). -/
def execBit_0_E (s : State) : Outcome := complete (.extended 0x43) 2 (testBit 0 (.reg .E)) s

/-- 0xCB 0x44 `BIT 0,H` (R339). -/
def execBit_0_H (s : State) : Outcome := complete (.extended 0x44) 2 (testBit 0 (.reg .H)) s

/-- 0xCB 0x45 `BIT 0,L` (R339). -/
def execBit_0_L (s : State) : Outcome := complete (.extended 0x45) 2 (testBit 0 (.reg .L)) s

/-- 0xCB 0x46 `BIT 0,(HL)` (R339). -/
def execBit_0_mHL (s : State) : Outcome := complete (.extended 0x46) 2 (testBit 0 .mHL) s

/-- 0xCB 0x47 `BIT 0,A` (R339). -/
def execBit_0_A (s : State) : Outcome := complete (.extended 0x47) 2 (testBit 0 (.reg .A)) s

/-- 0xCB 0x48 `BIT 1,B` (R339). -/
def execBit_1_B (s : State) : Outcome := complete (.extended 0x48) 2 (testBit 1 (.reg .B)) s

/-- 0xCB 0x49 `BIT 1,C` (R339). -/
def execBit_1_C (s : State) : Outcome := complete (.extended 0x49) 2 (testBit 1 (.reg .C)) s

/-- 0xCB 0x4A `BIT 1,D` (R339). -/
def execBit_1_D (s : State) : Outcome := complete (.extended 0x4A) 2 (testBit 1 (.reg .D)) s

/-- 0xCB 0x4B `BIT 1,E` (R339). -/
def execBit_1_E (s : State) : Outcome := complete (.extended 0x4B) 2 (testBit 1 (.reg .E)) s

/-- 0xCB 0x4C `BIT 1,H` (R339). -/
def execBit_1_H (s : State) : Outcome := complete (.extended 0x4C) 2 (testBit 1 (.reg .H)) s

/-- 0xCB 0x4D `BIT 1,L` (R339). -/
def execBit_1_L (s : State) : Outcome := complete (.extended 0x4D) 2 (testBit 1 (.reg .L)) s

/-- 0xCB 0x4E `BIT 1,(HL)` (R339). -/
def execBit_1_mHL (s : State) : Outcome := complete (.extended 0x4E) 2 (testBit 1 .mHL) s

/-- 0xCB 0x4F `BIT 1,A` (R339). -/
def execBit_1_A (s : State) : Outcome := complete (.extended 0x4F) 2 (testBit 1 (.reg .A)) s

/-- 0xCB 0x50 `BIT 2,B` (R339). -/
def execBit_2_B (s : State) : Outcome := complete (.extended 0x50) 2 (testBit 2 (.reg .B)) s

/-- 0xCB 0x51 `BIT 2,C` (R339). -/
def execBit_2_C (s : State) : Outcome := complete (.extended 0x51) 2 (testBit 2 (.reg .C)) s

/-- 0xCB 0x52 `BIT 2,D` (R339). -/
def execBit_2_D (s : State) : Outcome := complete (.extended 0x52) 2 (testBit 2 (.reg .D)) s

/-- 0xCB 0x53 `BIT 2,E` (R339). -/
def execBit_2_E (s : State) : Outcome := complete (.extended 0x53) 2 (testBit 2 (.reg .E)) s

/-- 0xCB 0x54 `BIT 2,H` (R339). -/
def execBit_2_H (s : State) : Outcome := complete (.extended 0x54) 2 (testBit 2 (.reg .H)) s

/-- 0xCB 0x55 `BIT 2,L` (R339). -/
def execBit_2_L (s : State) : Outcome := complete (.extended 0x55) 2 (testBit 2 (.reg .L)) s

/-- 0xCB 0x56 `BIT 2,(HL)` (R339). -/
def execBit_2_mHL (s : State) : Outcome := complete (.extended 0x56) 2 (testBit 2 .mHL) s

/-- 0xCB 0x57 `BIT 2,A` (R339). -/
def execBit_2_A (s : State) : Outcome := complete (.extended 0x57) 2 (testBit 2 (.reg .A)) s

/-- 0xCB 0x58 `BIT 3,B` (R339). -/
def execBit_3_B (s : State) : Outcome := complete (.extended 0x58) 2 (testBit 3 (.reg .B)) s

/-- 0xCB 0x59 `BIT 3,C` (R339). -/
def execBit_3_C (s : State) : Outcome := complete (.extended 0x59) 2 (testBit 3 (.reg .C)) s

/-- 0xCB 0x5A `BIT 3,D` (R339). -/
def execBit_3_D (s : State) : Outcome := complete (.extended 0x5A) 2 (testBit 3 (.reg .D)) s

/-- 0xCB 0x5B `BIT 3,E` (R339). -/
def execBit_3_E (s : State) : Outcome := complete (.extended 0x5B) 2 (testBit 3 (.reg .E)) s

/-- 0xCB 0x5C `BIT 3,H` (R339). -/
def execBit_3_H (s : State) : Outcome := complete (.extended 0x5C) 2 (testBit 3 (.reg .H)) s

/-- 0xCB 0x5D `BIT 3,L` (R339). -/
def execBit_3_L (s : State) : Outcome := complete (.extended 0x5D) 2 (testBit 3 (.reg .L)) s

/-- 0xCB 0x5E `BIT 3,(HL)` (R339). -/
def execBit_3_mHL (s : State) : Outcome := complete (.extended 0x5E) 2 (testBit 3 .mHL) s

/-- 0xCB 0x5F `BIT 3,A` (R339). -/
def execBit_3_A (s : State) : Outcome := complete (.extended 0x5F) 2 (testBit 3 (.reg .A)) s

/-- 0xCB 0x60 `BIT 4,B` (R339). -/
def execBit_4_B (s : State) : Outcome := complete (.extended 0x60) 2 (testBit 4 (.reg .B)) s

/-- 0xCB 0x61 `BIT 4,C` (R339). -/
def execBit_4_C (s : State) : Outcome := complete (.extended 0x61) 2 (testBit 4 (.reg .C)) s

/-- 0xCB 0x62 `BIT 4,D` (R339). -/
def execBit_4_D (s : State) : Outcome := complete (.extended 0x62) 2 (testBit 4 (.reg .D)) s

/-- 0xCB 0x63 `BIT 4,E` (R339). -/
def execBit_4_E (s : State) : Outcome := complete (.extended 0x63) 2 (testBit 4 (.reg .E)) s

/-- 0xCB 0x64 `BIT 4,H` (R339). -/
def execBit_4_H (s : State) : Outcome := complete (.extended 0x64) 2 (testBit 4 (.reg .H)) s

/-- 0xCB 0x65 `BIT 4,L` (R339). -/
def execBit_4_L (s : State) : Outcome := complete (.extended 0x65) 2 (testBit 4 (.reg .L)) s

/-- 0xCB 0x66 `BIT 4,(HL)` (R339). -/
def execBit_4_mHL (s : State) : Outcome := complete (.extended 0x66) 2 (testBit 4 .mHL) s

/-- 0xCB 0x67 `BIT 4,A` (R339). -/
def execBit_4_A (s : State) : Outcome := complete (.extended 0x67) 2 (testBit 4 (.reg .A)) s

/-- 0xCB 0x68 `BIT 5,B` (R339). -/
def execBit_5_B (s : State) : Outcome := complete (.extended 0x68) 2 (testBit 5 (.reg .B)) s

/-- 0xCB 0x69 `BIT 5,C` (R339). -/
def execBit_5_C (s : State) : Outcome := complete (.extended 0x69) 2 (testBit 5 (.reg .C)) s

/-- 0xCB 0x6A `BIT 5,D` (R339). -/
def execBit_5_D (s : State) : Outcome := complete (.extended 0x6A) 2 (testBit 5 (.reg .D)) s

/-- 0xCB 0x6B `BIT 5,E` (R339). -/
def execBit_5_E (s : State) : Outcome := complete (.extended 0x6B) 2 (testBit 5 (.reg .E)) s

/-- 0xCB 0x6C `BIT 5,H` (R339). -/
def execBit_5_H (s : State) : Outcome := complete (.extended 0x6C) 2 (testBit 5 (.reg .H)) s

/-- 0xCB 0x6D `BIT 5,L` (R339). -/
def execBit_5_L (s : State) : Outcome := complete (.extended 0x6D) 2 (testBit 5 (.reg .L)) s

/-- 0xCB 0x6E `BIT 5,(HL)` (R339). -/
def execBit_5_mHL (s : State) : Outcome := complete (.extended 0x6E) 2 (testBit 5 .mHL) s

/-- 0xCB 0x6F `BIT 5,A` (R339). -/
def execBit_5_A (s : State) : Outcome := complete (.extended 0x6F) 2 (testBit 5 (.reg .A)) s

/-- 0xCB 0x70 `BIT 6,B` (R339). -/
def execBit_6_B (s : State) : Outcome := complete (.extended 0x70) 2 (testBit 6 (.reg .B)) s

/-- 0xCB 0x71 `BIT 6,C` (R339). -/
def execBit_6_C (s : State) : Outcome := complete (.extended 0x71) 2 (testBit 6 (.reg .C)) s

/-- 0xCB 0x72 `BIT 6,D` (R339). -/
def execBit_6_D (s : State) : Outcome := complete (.extended 0x72) 2 (testBit 6 (.reg .D)) s

/-- 0xCB 0x73 `BIT 6,E` (R339). -/
def execBit_6_E (s : State) : Outcome := complete (.extended 0x73) 2 (testBit 6 (.reg .E)) s

/-- 0xCB 0x74 `BIT 6,H` (R339). -/
def execBit_6_H (s : State) : Outcome := complete (.extended 0x74) 2 (testBit 6 (.reg .H)) s

/-- 0xCB 0x75 `BIT 6,L` (R339). -/
def execBit_6_L (s : State) : Outcome := complete (.extended 0x75) 2 (testBit 6 (.reg .L)) s

/-- 0xCB 0x76 `BIT 6,(HL)` (R339). -/
def execBit_6_mHL (s : State) : Outcome := complete (.extended 0x76) 2 (testBit 6 .mHL) s

/-- 0xCB 0x77 `BIT 6,A` (R339). -/
def execBit_6_A (s : State) : Outcome := complete (.extended 0x77) 2 (testBit 6 (.reg .A)) s

/-- 0xCB 0x78 `BIT 7,B` (R339). -/
def execBit_7_B (s : State) : Outcome := complete (.extended 0x78) 2 (testBit 7 (.reg .B)) s

/-- 0xCB 0x79 `BIT 7,C` (R339). -/
def execBit_7_C (s : State) : Outcome := complete (.extended 0x79) 2 (testBit 7 (.reg .C)) s

/-- 0xCB 0x7A `BIT 7,D` (R339). -/
def execBit_7_D (s : State) : Outcome := complete (.extended 0x7A) 2 (testBit 7 (.reg .D)) s

/-- 0xCB 0x7B `BIT 7,E` (R339). -/
def execBit_7_E (s : State) : Outcome := complete (.extended 0x7B) 2 (testBit 7 (.reg .E)) s

/-- 0xCB 0x7C `BIT 7,H` (R339). -/
def execBit_7_H (s : State) : Outcome := complete (.extended 0x7C) 2 (testBit 7 (.reg .H)) s

/-- 0xCB 0x7D `BIT 7,L` (R339). -/
def execBit_7_L (s : State) : Outcome := complete (.extended 0x7D) 2 (testBit 7 (.reg .L)) s

/-- 0xCB 0x7E `BIT 7,(HL)` (R339). -/
def execBit_7_mHL (s : State) : Outcome := complete (.extended 0x7E) 2 (testBit 7 .mHL) s

/-- 0xCB 0x7F `BIT 7,A` (R339). -/
def execBit_7_A (s : State) : Outcome := complete (.extended 0x7F) 2 (testBit 7 (.reg .A)) s

/-- 0xCB 0x80 `RES 0,B` (R340). -/
def execRes_0_B (s : State) : Outcome := complete (.extended 0x80) 2 (clearBit 0 (.reg .B)) s

/-- 0xCB 0x81 `RES 0,C` (R340). -/
def execRes_0_C (s : State) : Outcome := complete (.extended 0x81) 2 (clearBit 0 (.reg .C)) s

/-- 0xCB 0x82 `RES 0,D` (R340). -/
def execRes_0_D (s : State) : Outcome := complete (.extended 0x82) 2 (clearBit 0 (.reg .D)) s

/-- 0xCB 0x83 `RES 0,E` (R340). -/
def execRes_0_E (s : State) : Outcome := complete (.extended 0x83) 2 (clearBit 0 (.reg .E)) s

/-- 0xCB 0x84 `RES 0,H` (R340). -/
def execRes_0_H (s : State) : Outcome := complete (.extended 0x84) 2 (clearBit 0 (.reg .H)) s

/-- 0xCB 0x85 `RES 0,L` (R340). -/
def execRes_0_L (s : State) : Outcome := complete (.extended 0x85) 2 (clearBit 0 (.reg .L)) s

/-- 0xCB 0x86 `RES 0,(HL)` (R340). -/
def execRes_0_mHL (s : State) : Outcome := complete (.extended 0x86) 2 (clearBit 0 .mHL) s

/-- 0xCB 0x87 `RES 0,A` (R340). -/
def execRes_0_A (s : State) : Outcome := complete (.extended 0x87) 2 (clearBit 0 (.reg .A)) s

/-- 0xCB 0x88 `RES 1,B` (R340). -/
def execRes_1_B (s : State) : Outcome := complete (.extended 0x88) 2 (clearBit 1 (.reg .B)) s

/-- 0xCB 0x89 `RES 1,C` (R340). -/
def execRes_1_C (s : State) : Outcome := complete (.extended 0x89) 2 (clearBit 1 (.reg .C)) s

/-- 0xCB 0x8A `RES 1,D` (R340). -/
def execRes_1_D (s : State) : Outcome := complete (.extended 0x8A) 2 (clearBit 1 (.reg .D)) s

/-- 0xCB 0x8B `RES 1,E` (R340). -/
def execRes_1_E (s : State) : Outcome := complete (.extended 0x8B) 2 (clearBit 1 (.reg .E)) s

/-- 0xCB 0x8C `RES 1,H` (R340). -/
def execRes_1_H (s : State) : Outcome := complete (.extended 0x8C) 2 (clearBit 1 (.reg .H)) s

/-- 0xCB 0x8D `RES 1,L` (R340). -/
def execRes_1_L (s : State) : Outcome := complete (.extended 0x8D) 2 (clearBit 1 (.reg .L)) s

/-- 0xCB 0x8E `RES 1,(HL)` (R340). -/
def execRes_1_mHL (s : State) : Outcome := complete (.extended 0x8E) 2 (clearBit 1 .mHL) s

/-- 0xCB 0x8F `RES 1,A` (R340). -/
def execRes_1_A (s : State) : Outcome := complete (.extended 0x8F) 2 (clearBit 1 (.reg .A)) s

/-- 0xCB 0x90 `RES 2,B` (R340). -/
def execRes_2_B (s : State) : Outcome := complete (.extended 0x90) 2 (clearBit 2 (.reg .B)) s

/-- 0xCB 0x91 `RES 2,C` (R340). -/
def execRes_2_C (s : State) : Outcome := complete (.extended 0x91) 2 (clearBit 2 (.reg .C)) s

/-- 0xCB 0x92 `RES 2,D` (R340). -/
def execRes_2_D (s : State) : Outcome := complete (.extended 0x92) 2 (clearBit 2 (.reg .D)) s

/-- 0xCB 0x93 `RES 2,E` (R340). -/
def execRes_2_E (s : State) : Outcome := complete (.extended 0x93) 2 (clearBit 2 (.reg .E)) s

/-- 0xCB 0x94 `RES 2,H` (R340). -/
def execRes_2_H (s : State) : Outcome := complete (.extended 0x94) 2 (clearBit 2 (.reg .H)) s

/-- 0xCB 0x95 `RES 2,L` (R340). -/
def execRes_2_L (s : State) : Outcome := complete (.extended 0x95) 2 (clearBit 2 (.reg .L)) s

/-- 0xCB 0x96 `RES 2,(HL)` (R340). -/
def execRes_2_mHL (s : State) : Outcome := complete (.extended 0x96) 2 (clearBit 2 .mHL) s

/-- 0xCB 0x97 `RES 2,A` (R340). -/
def execRes_2_A (s : State) : Outcome := complete (.extended 0x97) 2 (clearBit 2 (.reg .A)) s

/-- 0xCB 0x98 `RES 3,B` (R340). -/
def execRes_3_B (s : State) : Outcome := complete (.extended 0x98) 2 (clearBit 3 (.reg .B)) s

/-- 0xCB 0x99 `RES 3,C` (R340). -/
def execRes_3_C (s : State) : Outcome := complete (.extended 0x99) 2 (clearBit 3 (.reg .C)) s

/-- 0xCB 0x9A `RES 3,D` (R340). -/
def execRes_3_D (s : State) : Outcome := complete (.extended 0x9A) 2 (clearBit 3 (.reg .D)) s

/-- 0xCB 0x9B `RES 3,E` (R340). -/
def execRes_3_E (s : State) : Outcome := complete (.extended 0x9B) 2 (clearBit 3 (.reg .E)) s

/-- 0xCB 0x9C `RES 3,H` (R340). -/
def execRes_3_H (s : State) : Outcome := complete (.extended 0x9C) 2 (clearBit 3 (.reg .H)) s

/-- 0xCB 0x9D `RES 3,L` (R340). -/
def execRes_3_L (s : State) : Outcome := complete (.extended 0x9D) 2 (clearBit 3 (.reg .L)) s

/-- 0xCB 0x9E `RES 3,(HL)` (R340). -/
def execRes_3_mHL (s : State) : Outcome := complete (.extended 0x9E) 2 (clearBit 3 .mHL) s

/-- 0xCB 0x9F `RES 3,A` (R340). -/
def execRes_3_A (s : State) : Outcome := complete (.extended 0x9F) 2 (clearBit 3 (.reg .A)) s

/-- 0xCB 0xA0 `RES 4,B` (R340). -/
def execRes_4_B (s : State) : Outcome := complete (.extended 0xA0) 2 (clearBit 4 (.reg .B)) s

/-- 0xCB 0xA1 `RES 4,C` (R340). -/
def execRes_4_C (s : State) : Outcome := complete (.extended 0xA1) 2 (clearBit 4 (.reg .C)) s

/-- 0xCB 0xA2 `RES 4,D` (R340). -/
def execRes_4_D (s : State) : Outcome := complete (.extended 0xA2) 2 (clearBit 4 (.reg .D)) s

/-- 0xCB 0xA3 `RES 4,E` (R340). -/
def execRes_4_E (s : State) : Outcome := complete (.extended 0xA3) 2 (clearBit 4 (.reg .E)) s

/-- 0xCB 0xA4 `RES 4,H` (R340). -/
def execRes_4_H (s : State) : Outcome := complete (.extended 0xA4) 2 (clearBit 4 (.reg .H)) s

/-- 0xCB 0xA5 `RES 4,L` (R340). -/
def execRes_4_L (s : State) : Outcome := complete (.extended 0xA5) 2 (clearBit 4 (.reg .L)) s

/-- 0xCB 0xA6 `RES 4,(HL)` (R340). -/
def execRes_4_mHL (s : State) : Outcome := complete (.extended 0xA6) 2 (clearBit 4 .mHL) s

/-- 0xCB 0xA7 `RES 4,A` (R340). -/
def execRes_4_A (s : State) : Outcome := complete (.extended 0xA7) 2 (clearBit 4 (.reg .A)) s

/-- 0xCB 0xA8 `RES 5,B` (R340). -/
def execRes_5_B (s : State) : Outcome := complete (.extended 0xA8) 2 (clearBit 5 (.reg .B)) s

/-- 0xCB 0xA9 `RES 5,C` (R340). -/
def execRes_5_C (s : State) : Outcome := complete (.extended 0xA9) 2 (clearBit 5 (.reg .C)) s

/-- 0xCB 0xAA `RES 5,D` (R340). -/
def execRes_5_D (s : State) : Outcome := complete (.extended 0xAA) 2 (clearBit 5 (.reg .D)) s

/-- 0xCB 0xAB `RES 5,E` (R340). -/
def execRes_5_E (s : State) : Outcome := complete (.extended 0xAB) 2 (clearBit 5 (.reg .E)) s

/-- 0xCB 0xAC `RES 5,H` (R340). -/
def execRes_5_H (s : State) : Outcome := complete (.extended 0xAC) 2 (clearBit 5 (.reg .H)) s

/-- 0xCB 0xAD `RES 5,L` (R340). -/
def execRes_5_L (s : State) : Outcome := complete (.extended 0xAD) 2 (clearBit 5 (.reg .L)) s

/-- 0xCB 0xAE `RES 5,(HL)` (R340). -/
def execRes_5_mHL (s : State) : Outcome := complete (.extended 0xAE) 2 (clearBit 5 .mHL) s

/-- 0xCB 0xAF `RES 5,A` (R340). -/
def execRes_5_A (s : State) : Outcome := complete (.extended 0xAF) 2 (clearBit 5 (.reg .A)) s

/-- 0xCB 0xB0 `RES 6,B` (R340). -/
def execRes_6_B (s : State) : Outcome := complete (.extended 0xB0) 2 (clearBit 6 (.reg .B)) s

/-- 0xCB 0xB1 `RES 6,C` (R340). -/
def execRes_6_C (s : State) : Outcome := complete (.extended 0xB1) 2 (clearBit 6 (.reg .C)) s

/-- 0xCB 0xB2 `RES 6,D` (R340). -/
def execRes_6_D (s : State) : Outcome := complete (.extended 0xB2) 2 (clearBit 6 (.reg .D)) s

/-- 0xCB 0xB3 `RES 6,E` (R340). -/
def execRes_6_E (s : State) : Outcome := complete (.extended 0xB3) 2 (clearBit 6 (.reg .E)) s

/-- 0xCB 0xB4 `RES 6,H` (R340). -/
def execRes_6_H (s : State) : Outcome := complete (.extended 0xB4) 2 (clearBit 6 (.reg .H)) s

/-- 0xCB 0xB5 `RES 6,L` (R340). -/
def execRes_6_L (s : State) : Outcome := complete (.extended 0xB5) 2 (clearBit 6 (.reg .L)) s

/-- 0xCB 0xB6 `RES 6,(HL)` (R340). -/
def execRes_6_mHL (s : State) : Outcome := complete (.extended 0xB6) 2 (clearBit 6 .mHL) s

/-- 0xCB 0xB7 `RES 6,A` (R340). -/
def execRes_6_A (s : State) : Outcome := complete (.extended 0xB7) 2 (clearBit 6 (.reg .A)) s

/-- 0xCB 0xB8 `RES 7,B` (R340). -/
def execRes_7_B (s : State) : Outcome := complete (.extended 0xB8) 2 (clearBit 7 (.reg .B)) s

/-- 0xCB 0xB9 `RES 7,C` (R340). -/
def execRes_7_C (s : State) : Outcome := complete (.extended 0xB9) 2 (clearBit 7 (.reg .C)) s

/-- 0xCB 0xBA `RES 7,D` (R340). -/
def execRes_7_D (s : State) : Outcome := complete (.extended 0xBA) 2 (clearBit 7 (.reg .D)) s

/-- 0xCB 0xBB `RES 7,E` (R340). -/
def execRes_7_E (s : State) : Outcome := complete (.extended 0xBB) 2 (clearBit 7 (.reg .E)) s

/-- 0xCB 0xBC `RES 7,H` (R340). -/
def execRes_7_H (s : State) : Outcome := complete (.extended 0xBC) 2 (clearBit 7 (.reg .H)) s

/-- 0xCB 0xBD `RES 7,L` (R340). -/
def execRes_7_L (s : State) : Outcome := complete (.extended 0xBD) 2 (clearBit 7 (.reg .L)) s

/-- 0xCB 0xBE `RES 7,(HL)` (R340). -/
def execRes_7_mHL (s : State) : Outcome := complete (.extended 0xBE) 2 (clearBit 7 .mHL) s

/-- 0xCB 0xBF `RES 7,A` (R340). -/
def execRes_7_A (s : State) : Outcome := complete (.extended 0xBF) 2 (clearBit 7 (.reg .A)) s

/-- 0xCB 0xC0 `SET 0,B` (R341). -/
def execSet_0_B (s : State) : Outcome := complete (.extended 0xC0) 2 (raiseBit 0 (.reg .B)) s

/-- 0xCB 0xC1 `SET 0,C` (R341). -/
def execSet_0_C (s : State) : Outcome := complete (.extended 0xC1) 2 (raiseBit 0 (.reg .C)) s

/-- 0xCB 0xC2 `SET 0,D` (R341). -/
def execSet_0_D (s : State) : Outcome := complete (.extended 0xC2) 2 (raiseBit 0 (.reg .D)) s

/-- 0xCB 0xC3 `SET 0,E` (R341). -/
def execSet_0_E (s : State) : Outcome := complete (.extended 0xC3) 2 (raiseBit 0 (.reg .E)) s

/-- 0xCB 0xC4 `SET 0,H` (R341). -/
def execSet_0_H (s : State) : Outcome := complete (.extended 0xC4) 2 (raiseBit 0 (.reg .H)) s

/-- 0xCB 0xC5 `SET 0,L` (R341). -/
def execSet_0_L (s : State) : Outcome := complete (.extended 0xC5) 2 (raiseBit 0 (.reg .L)) s

/-- 0xCB 0xC6 `SET 0,(HL)` (R341). -/
def execSet_0_mHL (s : State) : Outcome := complete (.extended 0xC6) 2 (raiseBit 0 .mHL) s

/-- 0xCB 0xC7 `SET 0,A` (R341). -/
def execSet_0_A (s : State) : Outcome := complete (.extended 0xC7) 2 (raiseBit 0 (.reg .A)) s

/-- 0xCB 0xC8 `SET 1,B` (R341). -/
def execSet_1_B (s : State) : Outcome := complete (.extended 0xC8) 2 (raiseBit 1 (.reg .B)) s

/-- 0xCB 0xC9 `SET 1,C` (R341). -/
def execSet_1_C (s : State) : Outcome := complete (.extended 0xC9) 2 (raiseBit 1 (.reg .C)) s

/-- 0xCB 0xCA `SET 1,D` (R341). -/
def execSet_1_D (s : State) : Outcome := complete (.extended 0xCA) 2 (raiseBit 1 (.reg .D)) s

/-- 0xCB 0xCB `SET 1,E` (R341). -/
def execSet_1_E (s : State) : Outcome := complete (.extended 0xCB) 2 (raiseBit 1 (.reg .E)) s

/-- 0xCB 0xCC `SET 1,H` (R341). -/
def execSet_1_H (s : State) : Outcome := complete (.extended 0xCC) 2 (raiseBit 1 (.reg .H)) s

/-- 0xCB 0xCD `SET 1,L` (R341). -/
def execSet_1_L (s : State) : Outcome := complete (.extended 0xCD) 2 (raiseBit 1 (.reg .L)) s

/-- 0xCB 0xCE `SET 1,(HL)` (R341). -/
def execSet_1_mHL (s : State) : Outcome := complete (.extended 0xCE) 2 (raiseBit 1 .mHL) s

/-- 0xCB 0xCF `SET 1,A` (R341). -/
def execSet_1_A (s : State) : Outcome := complete (.extended 0xCF) 2 (raiseBit 1 (.reg .A)) s

/-- 0xCB 0xD0 `SET 2,B` (R341). -/
def execSet_2_B (s : State) : Outcome := complete (.extended 0xD0) 2 (raiseBit 2 (.reg .B)) s

/-- 0xCB 0xD1 `SET 2,C` (R341). -/
def execSet_2_C (s : State) : Outcome := complete (.extended 0xD1) 2 (raiseBit 2 (.reg .C)) s

/-- 0xCB 0xD2 `SET 2,D` (R341). -/
def execSet_2_D (s : State) : Outcome := complete (.extended 0xD2) 2 (raiseBit 2 (.reg .D)) s

/-- 0xCB 0xD3 `SET 2,E` (R341). -/
def execSet_2_E (s : State) : Outcome := complete (.extended 0xD3) 2 (raiseBit 2 (.reg .E)) s

/-- 0xCB 0xD4 `SET 2,H` (R341). -/
def execSet_2_H (s : State) : Outcome := complete (.extended 0xD4) 2 (raiseBit 2 (.reg .H)) s

/-- 0xCB 0xD5 `SET 2,L` (R341). -/
def execSet_2_L (s : State) : Outcome := complete (.extended 0xD5) 2 (raiseBit 2 (.reg .L)) s

/-- 0xCB 0xD6 `SET 2,(HL)` (R341). -/
def execSet_2_mHL (s : State) : Outcome := complete (.extended 0xD6) 2 (raiseBit 2 .mHL) s

/-- 0xCB 0xD7 `SET 2,A` (R341). -/
def execSet_2_A (s : State) : Outcome := complete (.extended 0xD7) 2 (raiseBit 2 (.reg .A)) s

/-- 0xCB 0xD8 `SET 3,B` (R341). -/
def execSet_3_B (s : State) : Outcome := complete (.extended 0xD8) 2 (raiseBit 3 (.reg .B)) s

/-- 0xCB 0xD9 `SET 3,C` (R341). -/
def execSet_3_C (s : State) : Outcome := complete (.extended 0xD9) 2 (raiseBit 3 (.reg .C)) s

/-- 0xCB 0xDA `SET 3,D` (R341). -/
def execSet_3_D (s : State) : Outcome := complete (.extended 0xDA) 2 (raiseBit 3 (.reg .D)) s

/-- 0xCB 0xDB `SET 3,E` (R341). -/
def execSet_3_E (s : State) : Outcome := complete (.extended 0xDB) 2 (raiseBit 3 (.reg .E)) s

/-- 0xCB 0xDC `SET 3,H` (R341). -/
def execSet_3_H (s : State) : Outcome := complete (.extended 0xDC) 2 (raiseBit 3 (.reg .H)) s

/-- 0xCB 0xDD `SET 3,L` (R341). -/
def execSet_3_L (s : State) : Outcome := complete (.extended 0xDD) 2 (raiseBit 3 (.reg .L)) s

/-- 0xCB 0xDE `SET 3,(HL)` (R341). -/
def execSet_3_mHL (s : State) : Outcome := complete (.extended 0xDE) 2 (raiseBit 3 .mHL) s

/-- 0xCB 0xDF `SET 3,A` (R341). -/
def execSet_3_A (s : State) : Outcome := complete (.extended 0xDF) 2 (raiseBit 3 (.reg .A)) s

/-- 0xCB 0xE0 `SET 4,B` (R341). -/
def execSet_4_B (s : State) : Outcome := complete (.extended 0xE0) 2 (raiseBit 4 (.reg .B)) s

/-- 0xCB 0xE1 `SET 4,C` (R341). -/
def execSet_4_C (s : State) : Outcome := complete (.extended 0xE1) 2 (raiseBit 4 (.reg .C)) s

/-- 0xCB 0xE2 `SET 4,D` (R341). -/
def execSet_4_D (s : State) : Outcome := complete (.extended 0xE2) 2 (raiseBit 4 (.reg .D)) s

/-- 0xCB 0xE3 `SET 4,E` (R341). -/
def execSet_4_E (s : State) : Outcome := complete (.extended 0xE3) 2 (raiseBit 4 (.reg .E)) s

/-- 0xCB 0xE4 `SET 4,H` (R341). -/
def execSet_4_H (s : State) : Outcome := complete (.extended 0xE4) 2 (raiseBit 4 (.reg .H)) s

/-- 0xCB 0xE5 `SET 4,L` (R341). -/
def execSet_4_L (s : State) : Outcome := complete (.extended 0xE5) 2 (raiseBit 4 (.reg .L)) s

/-- 0xCB 0xE6 `SET 4,(HL)` (R341). -/
def execSet_4_mHL (s : State) : Outcome := complete (.extended 0xE6) 2 (raiseBit 4 .mHL) s

/-- 0xCB 0xE7 `SET 4,A` (R341). -/
def execSet_4_A (s : State) : Outcome := complete (.extended 0xE7) 2 (raiseBit 4 (.reg .A)) s

/-- 0xCB 0xE8 `SET 5,B` (R341). -/
def execSet_5_B (s : State) : Outcome := complete (.extended 0xE8) 2 (raiseBit 5 (.reg .B)) s

/-- 0xCB 0xE9 `SET 5,C` (R341). -/
def execSet_5_C (s : State) : Outcome := complete (.extended 0xE9) 2 (raiseBit 5 (.reg .C)) s

/-- 0xCB 0xEA `SET 5,D` (R341). -/
def execSet_5_D (s : State) : Outcome := complete (.extended 0xEA) 2 (raiseBit 5 (.reg .D)) s

/-- 0xCB 0xEB `SET 5,E` (R341). -/
def execSet_5_E (s : State) : Outcome := complete (.extended 0xEB) 2 (raiseBit 5 (.reg .E)) s

/-- 0xCB 0xEC `SET 5,H` (R341). -/
def execSet_5_H (s : State) : Outcome := complete (.extended 0xEC) 2 (raiseBit 5 (.reg .H)) s

/-- 0xCB 0xED `SET 5,L` (R341). -/
def execSet_5_L (s : State) : Outcome := complete (.extended 0xED) 2 (raiseBit 5 (.reg .L)) s

/-- 0xCB 0xEE `SET 5,(HL)` (R341). -/
def execSet_5_mHL (s : State) : Outcome := complete (.extended 0xEE) 2 (raiseBit 5 .mHL) s

/-- 0xCB 0xEF `SET 5,A` (R341). -/
def execSet_5_A (s : State) : Outcome := complete (.extended 0xEF) 2 (raiseBit 5 (.reg .A)) s

/-- 0xCB 0xF0 `SET 6,B` (R341). -/
def execSet_6_B (s : State) : Outcome := complete (.extended 0xF0) 2 (raiseBit 6 (.reg .B)) s

/-- 0xCB 0xF1 `SET 6,C` (R341). -/
def execSet_6_C (s : State) : Outcome := complete (.extended 0xF1) 2 (raiseBit 6 (.reg .C)) s

/-- 0xCB 0xF2 `SET 6,D` (R341). -/
def execSet_6_D (s : State) : Outcome := complete (.extended 0xF2) 2 (raiseBit 6 (.reg .D)) s

/-- 0xCB 0xF3 `SET 6,E` (R341). -/
def execSet_6_E (s : State) : Outcome := complete (.extended 0xF3) 2 (raiseBit 6 (.reg .E)) s

/-- 0xCB 0xF4 `SET 6,H` (R341). -/
def execSet_6_H (s : State) : Outcome := complete (.extended 0xF4) 2 (raiseBit 6 (.reg .H)) s

/-- 0xCB 0xF5 `SET 6,L` (R341). -/
def execSet_6_L (s : State) : Outcome := complete (.extended 0xF5) 2 (raiseBit 6 (.reg .L)) s

/-- 0xCB 0xF6 `SET 6,(HL)` (R341). -/
def execSet_6_mHL (s : State) : Outcome := complete (.extended 0xF6) 2 (raiseBit 6 .mHL) s

/-- 0xCB 0xF7 `SET 6,A` (R341). -/
def execSet_6_A (s : State) : Outcome := complete (.extended 0xF7) 2 (raiseBit 6 (.reg .A)) s

/-- 0xCB 0xF8 `SET 7,B` (R341). -/
def execSet_7_B (s : State) : Outcome := complete (.extended 0xF8) 2 (raiseBit 7 (.reg .B)) s

/-- 0xCB 0xF9 `SET 7,C` (R341). -/
def execSet_7_C (s : State) : Outcome := complete (.extended 0xF9) 2 (raiseBit 7 (.reg .C)) s

/-- 0xCB 0xFA `SET 7,D` (R341). -/
def execSet_7_D (s : State) : Outcome := complete (.extended 0xFA) 2 (raiseBit 7 (.reg .D)) s

/-- 0xCB 0xFB `SET 7,E` (R341). -/
def execSet_7_E (s : State) : Outcome := complete (.extended 0xFB) 2 (raiseBit 7 (.reg .E)) s

/-- 0xCB 0xFC `SET 7,H` (R341). -/
def execSet_7_H (s : State) : Outcome := complete (.extended 0xFC) 2 (raiseBit 7 (.reg .H)) s

/-- 0xCB 0xFD `SET 7,L` (R341). -/
def execSet_7_L (s : State) : Outcome := complete (.extended 0xFD) 2 (raiseBit 7 (.reg .L)) s

/-- 0xCB 0xFE `SET 7,(HL)` (R341). -/
def execSet_7_mHL (s : State) : Outcome := complete (.extended 0xFE) 2 (raiseBit 7 .mHL) s

/-- 0xCB 0xFF `SET 7,A` (R341). -/
def execSet_7_A (s : State) : Outcome := complete (.extended 0xFF) 2 (raiseBit 7 (.reg .A)) s

end Sys2Proof.Machine
end

