-- ==== Sys2Proof/Machine/Load16.lean ====
section
/-! DEFINITION. The 16-bit loads and the stack (42_load16_stack.md). The operand bytes have been fetched before an effect runs (Log 8).
The rows of the table follow the shared effects, one definition a row. -/

namespace Sys2Proof.Machine

/-- `LD rr,nn` (R230). -/
def ldReg16Imm (r : Reg16) (nn : Word) : Exec Charge := do
  updates (·.setReg16 r nn)
  return charge 3

/-- `MemWrite(nn, 2, sp)` (R231). -/
def ldAbsSP (nn : Word) : Exec Charge := do
  let v ← reads (·.sp)
  writeWord nn v
  return charge 5

/-- `sp <- xx[HL]` (R232). -/
def ldSPHL : Exec Charge := do
  let v ← reads (·.pair .HL)
  updates (·.setSp v)
  return charge 2

/-- `xx[HL] <- ALU.addWords(sp, sext_16(e))` (R233). -/
def ldHLSPe (e : Byte) : Exec Charge := do
  updates (fun s =>
    let r := Alu.addWords s.flags s.sp (sext16 e)
    (s.setFlags r.2).setPair .HL r.1)
  return charge 3

/-- `PUSH rr` (R234). -/
def push (r : StackReg) : Exec Charge := do
  let v ← reads (·.stackReg r)
  pushWord v
  return charge 3

/-- `POP rr` (R235). -/
def pop (r : StackReg) : Exec Charge := do
  let v ← popWord
  updates (·.setStackReg r v)
  return charge 3

/-! ## The rows -/

/-- 0x01 `LD BC,nn` (R230). -/
def execLd_BC_nn (nn : Word) (s : State) : Outcome := complete (.primary 0x01) 3 (ldReg16Imm (.pair .BC) nn) s

/-- 0x08 `LD (nn),SP` (R231). -/
def execLd_mNN_SP (nn : Word) (s : State) : Outcome := complete (.primary 0x08) 3 (ldAbsSP nn) s

/-- 0x11 `LD DE,nn` (R230). -/
def execLd_DE_nn (nn : Word) (s : State) : Outcome := complete (.primary 0x11) 3 (ldReg16Imm (.pair .DE) nn) s

/-- 0x21 `LD HL,nn` (R230). -/
def execLd_HL_nn (nn : Word) (s : State) : Outcome := complete (.primary 0x21) 3 (ldReg16Imm (.pair .HL) nn) s

/-- 0x31 `LD SP,nn` (R230). -/
def execLd_SP_nn (nn : Word) (s : State) : Outcome := complete (.primary 0x31) 3 (ldReg16Imm .SP nn) s

/-- 0xC1 `POP BC` (R235). -/
def execPop_BC (s : State) : Outcome := complete (.primary 0xC1) 1 (pop (.pair .BC)) s

/-- 0xC5 `PUSH BC` (R234). -/
def execPush_BC (s : State) : Outcome := complete (.primary 0xC5) 1 (push (.pair .BC)) s

/-- 0xD1 `POP DE` (R235). -/
def execPop_DE (s : State) : Outcome := complete (.primary 0xD1) 1 (pop (.pair .DE)) s

/-- 0xD5 `PUSH DE` (R234). -/
def execPush_DE (s : State) : Outcome := complete (.primary 0xD5) 1 (push (.pair .DE)) s

/-- 0xE1 `POP HL` (R235). -/
def execPop_HL (s : State) : Outcome := complete (.primary 0xE1) 1 (pop (.pair .HL)) s

/-- 0xE5 `PUSH HL` (R234). -/
def execPush_HL (s : State) : Outcome := complete (.primary 0xE5) 1 (push (.pair .HL)) s

/-- 0xF1 `POP AF` (R235). -/
def execPop_AF (s : State) : Outcome := complete (.primary 0xF1) 1 (pop .AF) s

/-- 0xF5 `PUSH AF` (R234). -/
def execPush_AF (s : State) : Outcome := complete (.primary 0xF5) 1 (push .AF) s

/-- 0xF8 `LD HL,SP+e` (R233). -/
def execLd_HL_SPe (e : Byte) (s : State) : Outcome := complete (.primary 0xF8) 2 (ldHLSPe e) s

/-- 0xF9 `LD SP,HL` (R232). -/
def execLd_SP_HL (s : State) : Outcome := complete (.primary 0xF9) 1 ldSPHL s

end Sys2Proof.Machine
end

