-- ==== Sys2Proof/Machine/Load8.lean ====
section
/-! DEFINITION. The 8-bit loads (41_load8.md). No flag is read or written. The operand bytes have been fetched before an effect runs (Log 8).
The rows of the table follow the shared effects, one definition a row. -/

namespace Sys2Proof.Machine

/-- `x[r] <- x[r']` (R200). -/
def ldRegReg (d r : Reg8) : Exec Charge := do
  let v ← reads (·.reg r)
  updates (·.setReg d v)
  return charge 1

/-- `x[r] <- n` (R201). -/
def ldRegImm (d : Reg8) (n : Byte) : Exec Charge := do
  updates (·.setReg d n)
  return charge 2

/-- `x[r] <- MemRead(xx[HL], 1)` (R202). -/
def ldRegMem (d : Reg8) : Exec Charge := do
  let v ← readOperand .mHL
  updates (·.setReg d v)
  return charge 2

/-- `MemWrite(xx[HL], 1, x[r])` (R203). -/
def ldMemReg (r : Reg8) : Exec Charge := do
  let v ← reads (·.reg r)
  writeOperand .mHL v
  return charge 2

/-- `MemWrite(xx[HL], 1, n)` (R204). -/
def ldMemImm (n : Byte) : Exec Charge := do
  writeOperand .mHL n
  return charge 3

/-- `x[A] <- MemRead(addr, 1)` for the address forms of R205, R206, R209, R211. -/
def loadA (addr : State → Word) (cost : Nat) : Exec Charge := do
  let a ← reads addr
  let v ← readByte a
  updates (·.setReg .A v)
  return charge cost

/-- `MemWrite(addr, 1, x[A])` for the address forms of R207, R208, R210, R212, R213. -/
def storeA (addr : State → Word) (cost : Nat) : Exec Charge := do
  let a ← reads addr
  let v ← reads (·.reg .A)
  writeByte a v
  return charge cost

/-- `x[A] <- MemRead(xx[HL], 1)`, then `HL` moves by a plain wrap without flags (R215, R217). -/
def loadAMove (move : Word → Word) : Exec Charge := do
  let a ← reads (·.pair .HL)
  let v ← readByte a
  updates (·.setReg .A v)
  updates (fun s => s.setPair .HL (move (s.pair .HL)))
  return charge 2

/-- `MemWrite(xx[HL], 1, x[A])`, then `HL` moves by a plain wrap without flags (R214, R216). -/
def storeAMove (move : Word → Word) : Exec Charge := do
  let a ← reads (·.pair .HL)
  let v ← reads (·.reg .A)
  writeByte a v
  updates (fun s => s.setPair .HL (move (s.pair .HL)))
  return charge 2

/-! ## The rows -/

/-- 0x02 `LD (BC),A` (R207). -/
def execLd_mBC_A (s : State) : Outcome := complete (.primary 0x02) 1 (storeA (·.pair .BC) 2) s

/-- 0x06 `LD B,n` (R201). -/
def execLd_B_n (n : Byte) (s : State) : Outcome := complete (.primary 0x06) 2 (ldRegImm .B n) s

/-- 0x0A `LD A,(BC)` (R205). -/
def execLd_A_mBC (s : State) : Outcome := complete (.primary 0x0A) 1 (loadA (·.pair .BC) 2) s

/-- 0x0E `LD C,n` (R201). -/
def execLd_C_n (n : Byte) (s : State) : Outcome := complete (.primary 0x0E) 2 (ldRegImm .C n) s

/-- 0x12 `LD (DE),A` (R208). -/
def execLd_mDE_A (s : State) : Outcome := complete (.primary 0x12) 1 (storeA (·.pair .DE) 2) s

/-- 0x16 `LD D,n` (R201). -/
def execLd_D_n (n : Byte) (s : State) : Outcome := complete (.primary 0x16) 2 (ldRegImm .D n) s

/-- 0x1A `LD A,(DE)` (R206). -/
def execLd_A_mDE (s : State) : Outcome := complete (.primary 0x1A) 1 (loadA (·.pair .DE) 2) s

/-- 0x1E `LD E,n` (R201). -/
def execLd_E_n (n : Byte) (s : State) : Outcome := complete (.primary 0x1E) 2 (ldRegImm .E n) s

/-- 0x22 `LD (HL+),A` (R214). -/
def execLd_mHLI_A (s : State) : Outcome := complete (.primary 0x22) 1 (storeAMove (· + 1)) s

/-- 0x26 `LD H,n` (R201). -/
def execLd_H_n (n : Byte) (s : State) : Outcome := complete (.primary 0x26) 2 (ldRegImm .H n) s

/-- 0x2A `LD A,(HL+)` (R215). -/
def execLd_A_mHLI (s : State) : Outcome := complete (.primary 0x2A) 1 (loadAMove (· + 1)) s

/-- 0x2E `LD L,n` (R201). -/
def execLd_L_n (n : Byte) (s : State) : Outcome := complete (.primary 0x2E) 2 (ldRegImm .L n) s

/-- 0x32 `LD (HL-),A` (R216). -/
def execLd_mHLD_A (s : State) : Outcome := complete (.primary 0x32) 1 (storeAMove (· - 1)) s

/-- 0x36 `LD (HL),n` (R204). -/
def execLd_mHL_n (n : Byte) (s : State) : Outcome := complete (.primary 0x36) 2 (ldMemImm n) s

/-- 0x3A `LD A,(HL-)` (R217). -/
def execLd_A_mHLD (s : State) : Outcome := complete (.primary 0x3A) 1 (loadAMove (· - 1)) s

/-- 0x3E `LD A,n` (R201). -/
def execLd_A_n (n : Byte) (s : State) : Outcome := complete (.primary 0x3E) 2 (ldRegImm .A n) s

/-- 0x40 `LD B,B` (R200). -/
def execLd_B_B (s : State) : Outcome := complete (.primary 0x40) 1 (ldRegReg .B .B) s

/-- 0x41 `LD B,C` (R200). -/
def execLd_B_C (s : State) : Outcome := complete (.primary 0x41) 1 (ldRegReg .B .C) s

/-- 0x42 `LD B,D` (R200). -/
def execLd_B_D (s : State) : Outcome := complete (.primary 0x42) 1 (ldRegReg .B .D) s

/-- 0x43 `LD B,E` (R200). -/
def execLd_B_E (s : State) : Outcome := complete (.primary 0x43) 1 (ldRegReg .B .E) s

/-- 0x44 `LD B,H` (R200). -/
def execLd_B_H (s : State) : Outcome := complete (.primary 0x44) 1 (ldRegReg .B .H) s

/-- 0x45 `LD B,L` (R200). -/
def execLd_B_L (s : State) : Outcome := complete (.primary 0x45) 1 (ldRegReg .B .L) s

/-- 0x46 `LD B,(HL)` (R202). -/
def execLd_B_mHL (s : State) : Outcome := complete (.primary 0x46) 1 (ldRegMem .B) s

/-- 0x47 `LD B,A` (R200). -/
def execLd_B_A (s : State) : Outcome := complete (.primary 0x47) 1 (ldRegReg .B .A) s

/-- 0x48 `LD C,B` (R200). -/
def execLd_C_B (s : State) : Outcome := complete (.primary 0x48) 1 (ldRegReg .C .B) s

/-- 0x49 `LD C,C` (R200). -/
def execLd_C_C (s : State) : Outcome := complete (.primary 0x49) 1 (ldRegReg .C .C) s

/-- 0x4A `LD C,D` (R200). -/
def execLd_C_D (s : State) : Outcome := complete (.primary 0x4A) 1 (ldRegReg .C .D) s

/-- 0x4B `LD C,E` (R200). -/
def execLd_C_E (s : State) : Outcome := complete (.primary 0x4B) 1 (ldRegReg .C .E) s

/-- 0x4C `LD C,H` (R200). -/
def execLd_C_H (s : State) : Outcome := complete (.primary 0x4C) 1 (ldRegReg .C .H) s

/-- 0x4D `LD C,L` (R200). -/
def execLd_C_L (s : State) : Outcome := complete (.primary 0x4D) 1 (ldRegReg .C .L) s

/-- 0x4E `LD C,(HL)` (R202). -/
def execLd_C_mHL (s : State) : Outcome := complete (.primary 0x4E) 1 (ldRegMem .C) s

/-- 0x4F `LD C,A` (R200). -/
def execLd_C_A (s : State) : Outcome := complete (.primary 0x4F) 1 (ldRegReg .C .A) s

/-- 0x50 `LD D,B` (R200). -/
def execLd_D_B (s : State) : Outcome := complete (.primary 0x50) 1 (ldRegReg .D .B) s

/-- 0x51 `LD D,C` (R200). -/
def execLd_D_C (s : State) : Outcome := complete (.primary 0x51) 1 (ldRegReg .D .C) s

/-- 0x52 `LD D,D` (R200). -/
def execLd_D_D (s : State) : Outcome := complete (.primary 0x52) 1 (ldRegReg .D .D) s

/-- 0x53 `LD D,E` (R200). -/
def execLd_D_E (s : State) : Outcome := complete (.primary 0x53) 1 (ldRegReg .D .E) s

/-- 0x54 `LD D,H` (R200). -/
def execLd_D_H (s : State) : Outcome := complete (.primary 0x54) 1 (ldRegReg .D .H) s

/-- 0x55 `LD D,L` (R200). -/
def execLd_D_L (s : State) : Outcome := complete (.primary 0x55) 1 (ldRegReg .D .L) s

/-- 0x56 `LD D,(HL)` (R202). -/
def execLd_D_mHL (s : State) : Outcome := complete (.primary 0x56) 1 (ldRegMem .D) s

/-- 0x57 `LD D,A` (R200). -/
def execLd_D_A (s : State) : Outcome := complete (.primary 0x57) 1 (ldRegReg .D .A) s

/-- 0x58 `LD E,B` (R200). -/
def execLd_E_B (s : State) : Outcome := complete (.primary 0x58) 1 (ldRegReg .E .B) s

/-- 0x59 `LD E,C` (R200). -/
def execLd_E_C (s : State) : Outcome := complete (.primary 0x59) 1 (ldRegReg .E .C) s

/-- 0x5A `LD E,D` (R200). -/
def execLd_E_D (s : State) : Outcome := complete (.primary 0x5A) 1 (ldRegReg .E .D) s

/-- 0x5B `LD E,E` (R200). -/
def execLd_E_E (s : State) : Outcome := complete (.primary 0x5B) 1 (ldRegReg .E .E) s

/-- 0x5C `LD E,H` (R200). -/
def execLd_E_H (s : State) : Outcome := complete (.primary 0x5C) 1 (ldRegReg .E .H) s

/-- 0x5D `LD E,L` (R200). -/
def execLd_E_L (s : State) : Outcome := complete (.primary 0x5D) 1 (ldRegReg .E .L) s

/-- 0x5E `LD E,(HL)` (R202). -/
def execLd_E_mHL (s : State) : Outcome := complete (.primary 0x5E) 1 (ldRegMem .E) s

/-- 0x5F `LD E,A` (R200). -/
def execLd_E_A (s : State) : Outcome := complete (.primary 0x5F) 1 (ldRegReg .E .A) s

/-- 0x60 `LD H,B` (R200). -/
def execLd_H_B (s : State) : Outcome := complete (.primary 0x60) 1 (ldRegReg .H .B) s

/-- 0x61 `LD H,C` (R200). -/
def execLd_H_C (s : State) : Outcome := complete (.primary 0x61) 1 (ldRegReg .H .C) s

/-- 0x62 `LD H,D` (R200). -/
def execLd_H_D (s : State) : Outcome := complete (.primary 0x62) 1 (ldRegReg .H .D) s

/-- 0x63 `LD H,E` (R200). -/
def execLd_H_E (s : State) : Outcome := complete (.primary 0x63) 1 (ldRegReg .H .E) s

/-- 0x64 `LD H,H` (R200). -/
def execLd_H_H (s : State) : Outcome := complete (.primary 0x64) 1 (ldRegReg .H .H) s

/-- 0x65 `LD H,L` (R200). -/
def execLd_H_L (s : State) : Outcome := complete (.primary 0x65) 1 (ldRegReg .H .L) s

/-- 0x66 `LD H,(HL)` (R202). -/
def execLd_H_mHL (s : State) : Outcome := complete (.primary 0x66) 1 (ldRegMem .H) s

/-- 0x67 `LD H,A` (R200). -/
def execLd_H_A (s : State) : Outcome := complete (.primary 0x67) 1 (ldRegReg .H .A) s

/-- 0x68 `LD L,B` (R200). -/
def execLd_L_B (s : State) : Outcome := complete (.primary 0x68) 1 (ldRegReg .L .B) s

/-- 0x69 `LD L,C` (R200). -/
def execLd_L_C (s : State) : Outcome := complete (.primary 0x69) 1 (ldRegReg .L .C) s

/-- 0x6A `LD L,D` (R200). -/
def execLd_L_D (s : State) : Outcome := complete (.primary 0x6A) 1 (ldRegReg .L .D) s

/-- 0x6B `LD L,E` (R200). -/
def execLd_L_E (s : State) : Outcome := complete (.primary 0x6B) 1 (ldRegReg .L .E) s

/-- 0x6C `LD L,H` (R200). -/
def execLd_L_H (s : State) : Outcome := complete (.primary 0x6C) 1 (ldRegReg .L .H) s

/-- 0x6D `LD L,L` (R200). -/
def execLd_L_L (s : State) : Outcome := complete (.primary 0x6D) 1 (ldRegReg .L .L) s

/-- 0x6E `LD L,(HL)` (R202). -/
def execLd_L_mHL (s : State) : Outcome := complete (.primary 0x6E) 1 (ldRegMem .L) s

/-- 0x6F `LD L,A` (R200). -/
def execLd_L_A (s : State) : Outcome := complete (.primary 0x6F) 1 (ldRegReg .L .A) s

/-- 0x70 `LD (HL),B` (R203). -/
def execLd_mHL_B (s : State) : Outcome := complete (.primary 0x70) 1 (ldMemReg .B) s

/-- 0x71 `LD (HL),C` (R203). -/
def execLd_mHL_C (s : State) : Outcome := complete (.primary 0x71) 1 (ldMemReg .C) s

/-- 0x72 `LD (HL),D` (R203). -/
def execLd_mHL_D (s : State) : Outcome := complete (.primary 0x72) 1 (ldMemReg .D) s

/-- 0x73 `LD (HL),E` (R203). -/
def execLd_mHL_E (s : State) : Outcome := complete (.primary 0x73) 1 (ldMemReg .E) s

/-- 0x74 `LD (HL),H` (R203). -/
def execLd_mHL_H (s : State) : Outcome := complete (.primary 0x74) 1 (ldMemReg .H) s

/-- 0x75 `LD (HL),L` (R203). -/
def execLd_mHL_L (s : State) : Outcome := complete (.primary 0x75) 1 (ldMemReg .L) s

/-- 0x77 `LD (HL),A` (R203). -/
def execLd_mHL_A (s : State) : Outcome := complete (.primary 0x77) 1 (ldMemReg .A) s

/-- 0x78 `LD A,B` (R200). -/
def execLd_A_B (s : State) : Outcome := complete (.primary 0x78) 1 (ldRegReg .A .B) s

/-- 0x79 `LD A,C` (R200). -/
def execLd_A_C (s : State) : Outcome := complete (.primary 0x79) 1 (ldRegReg .A .C) s

/-- 0x7A `LD A,D` (R200). -/
def execLd_A_D (s : State) : Outcome := complete (.primary 0x7A) 1 (ldRegReg .A .D) s

/-- 0x7B `LD A,E` (R200). -/
def execLd_A_E (s : State) : Outcome := complete (.primary 0x7B) 1 (ldRegReg .A .E) s

/-- 0x7C `LD A,H` (R200). -/
def execLd_A_H (s : State) : Outcome := complete (.primary 0x7C) 1 (ldRegReg .A .H) s

/-- 0x7D `LD A,L` (R200). -/
def execLd_A_L (s : State) : Outcome := complete (.primary 0x7D) 1 (ldRegReg .A .L) s

/-- 0x7E `LD A,(HL)` (R202). -/
def execLd_A_mHL (s : State) : Outcome := complete (.primary 0x7E) 1 (ldRegMem .A) s

/-- 0x7F `LD A,A` (R200). -/
def execLd_A_A (s : State) : Outcome := complete (.primary 0x7F) 1 (ldRegReg .A .A) s

/-- 0xE0 `LDH (n),A` (R212). -/
def execLdh_mN_A (n : Byte) (s : State) : Outcome := complete (.primary 0xE0) 2 (storeA (fun _ => highPage n) 3) s

/-- 0xE2 `LD (C),A` (R213). -/
def execLd_mC_A (s : State) : Outcome := complete (.primary 0xE2) 1 (storeA (fun s => highPage (s.reg .C)) 2) s

/-- 0xEA `LD (nn),A` (R210). -/
def execLd_mNN_A (nn : Word) (s : State) : Outcome := complete (.primary 0xEA) 3 (storeA (fun _ => nn) 4) s

/-- 0xF0 `LDH A,(n)` (R211). -/
def execLdh_A_mN (n : Byte) (s : State) : Outcome := complete (.primary 0xF0) 2 (loadA (fun _ => highPage n) 3) s

/-- 0xFA `LD A,(nn)` (R209). -/
def execLd_A_mNN (nn : Word) (s : State) : Outcome := complete (.primary 0xFA) 3 (loadA (fun _ => nn) 4) s

end Sys2Proof.Machine
end

