-- ==== Sys2Proof/Machine/System.lean ====
section
/-! DEFINITION. `NOP`, `STOP`, `HALT`, `DI`, `EI` (47_system.md). The operand bytes have been fetched before an effect runs (Log 8).
The rows of the table follow the shared effects, one definition a row. -/

namespace Sys2Proof.Machine

/-- `NOP` (R360). -/
def nop : Exec Charge := pure (charge 1)

/-- `running <- false` (R361). -/
def stop : Exec Charge := do
  updates (fun s => { s with running := false })
  return charge 1

/-- `pc <- (pc − 1) mod 65536` (R362). -/
def halt : Exec Charge := do
  updates (fun s => s.setPc (s.pc - 1))
  return charge 1

/-- `interruptsEnabled <- on` (R363, R364). -/
def setInterrupts (on : Bool) : Exec Charge := do
  updates (fun s => { s with interruptsEnabled := on })
  return charge 1

/-! ## The rows -/

/-- 0x00 `NOP` (R360). -/
def execNop (s : State) : Outcome := complete (.primary 0x00) 1 nop s

/-- 0x10 `STOP` (R361). -/
def execStop (s : State) : Outcome := complete (.primary 0x10) 1 stop s

/-- 0x76 `HALT` (R362). -/
def execHalt (s : State) : Outcome := complete (.primary 0x76) 1 halt s

/-- 0xD3 `ILLEGAL_D3` (R366). -/
def execIllegal_D3 (s : State) : Outcome := complete (.primary 0xD3) 1 unsupported s

/-- 0xDB `ILLEGAL_DB` (R366). -/
def execIllegal_DB (s : State) : Outcome := complete (.primary 0xDB) 1 unsupported s

/-- 0xDD `ILLEGAL_DD` (R366). -/
def execIllegal_DD (s : State) : Outcome := complete (.primary 0xDD) 1 unsupported s

/-- 0xE3 `ILLEGAL_E3` (R366). -/
def execIllegal_E3 (s : State) : Outcome := complete (.primary 0xE3) 1 unsupported s

/-- 0xE4 `ILLEGAL_E4` (R366). -/
def execIllegal_E4 (s : State) : Outcome := complete (.primary 0xE4) 1 unsupported s

/-- 0xEB `ILLEGAL_EB` (R366). -/
def execIllegal_EB (s : State) : Outcome := complete (.primary 0xEB) 1 unsupported s

/-- 0xEC `ILLEGAL_EC` (R366). -/
def execIllegal_EC (s : State) : Outcome := complete (.primary 0xEC) 1 unsupported s

/-- 0xED `ILLEGAL_ED` (R366). -/
def execIllegal_ED (s : State) : Outcome := complete (.primary 0xED) 1 unsupported s

/-- 0xF2 `ILLEGAL_F2` (R366). -/
def execIllegal_F2 (s : State) : Outcome := complete (.primary 0xF2) 1 unsupported s

/-- 0xF3 `DI` (R363). -/
def execDi (s : State) : Outcome := complete (.primary 0xF3) 1 (setInterrupts false) s

/-- 0xF4 `ILLEGAL_F4` (R366). -/
def execIllegal_F4 (s : State) : Outcome := complete (.primary 0xF4) 1 unsupported s

/-- 0xFB `EI` (R364). -/
def execEi (s : State) : Outcome := complete (.primary 0xFB) 1 (setInterrupts true) s

/-- 0xFC `ILLEGAL_FC` (R366). -/
def execIllegal_FC (s : State) : Outcome := complete (.primary 0xFC) 1 unsupported s

/-- 0xFD `ILLEGAL_FD` (R366). -/
def execIllegal_FD (s : State) : Outcome := complete (.primary 0xFD) 1 unsupported s

end Sys2Proof.Machine
end

