-- ==== Sys2Proof/Decode.lean ====
section
/-! DEFINITION. The decoder, written from the tables of 30_encoding.md R107 and R114, total on any bytes (R115), and
after it the encoder. The only reject is a byte string that ends before the instruction does: every byte value has a row. -/

namespace Sys2Proof

open Sys2Proof.Machine (wordOf loByte hiByte)

/-- Why a byte string is not the start of an instruction. -/
inductive DecodeReject where
  /-- There is no byte at all. -/
  | noByte
  /-- The opcode's row asks for more bytes than there are (R115). -/
  | truncated (opcode : Byte)
  deriving DecidableEq, Repr

/-- A row of the primary table: what follows the opcode byte (R100). -/
inductive PrimaryRow where
  /-- Formats `OP` and `ILLEGAL`: nothing follows. -/
  | bare (i : Instr)
  /-- Formats `OP_D8` and `OP_E8`: one byte follows. -/
  | imm8 (f : Byte → Instr)
  /-- Format `OP_D16`: two bytes follow, low byte first. -/
  | imm16 (f : Word → Instr)
  /-- The prefix 0xCB: the extended opcode follows. -/
  | ext

/-! The primary table (R107), one definition per row of its grid (the high nibble), entries in the order of the low nibble. -/

def primary0x : Vector PrimaryRow 16 :=
  #v[.bare .nop, .imm16 .ld_BC_nn, .bare .ld_mBC_A, .bare .inc_BC, .bare .inc_B, .bare .dec_B, .imm8 .ld_B_n,
   .bare .rlca, .imm16 .ld_mNN_SP, .bare .add_HL_BC, .bare .ld_A_mBC, .bare .dec_BC, .bare .inc_C, .bare .dec_C,
   .imm8 .ld_C_n, .bare .rrca]

def primary1x : Vector PrimaryRow 16 :=
  #v[.bare .stop, .imm16 .ld_DE_nn, .bare .ld_mDE_A, .bare .inc_DE, .bare .inc_D, .bare .dec_D, .imm8 .ld_D_n,
   .bare .rla, .imm8 .jr_e, .bare .add_HL_DE, .bare .ld_A_mDE, .bare .dec_DE, .bare .inc_E, .bare .dec_E,
   .imm8 .ld_E_n, .bare .rra]

def primary2x : Vector PrimaryRow 16 :=
  #v[.imm8 .jr_NZ_e, .imm16 .ld_HL_nn, .bare .ld_mHLI_A, .bare .inc_HL, .bare .inc_H, .bare .dec_H,
   .imm8 .ld_H_n, .bare .daa, .imm8 .jr_Z_e, .bare .add_HL_HL, .bare .ld_A_mHLI, .bare .dec_HL, .bare .inc_L,
   .bare .dec_L, .imm8 .ld_L_n, .bare .cpl]

def primary3x : Vector PrimaryRow 16 :=
  #v[.imm8 .jr_NC_e, .imm16 .ld_SP_nn, .bare .ld_mHLD_A, .bare .inc_SP, .bare .inc_mHL, .bare .dec_mHL,
   .imm8 .ld_mHL_n, .bare .scf, .imm8 .jr_C_e, .bare .add_HL_SP, .bare .ld_A_mHLD, .bare .dec_SP, .bare .inc_A,
   .bare .dec_A, .imm8 .ld_A_n, .bare .ccf]

def primary4x : Vector PrimaryRow 16 :=
  #v[.bare .ld_B_B, .bare .ld_B_C, .bare .ld_B_D, .bare .ld_B_E, .bare .ld_B_H, .bare .ld_B_L, .bare .ld_B_mHL,
   .bare .ld_B_A, .bare .ld_C_B, .bare .ld_C_C, .bare .ld_C_D, .bare .ld_C_E, .bare .ld_C_H, .bare .ld_C_L,
   .bare .ld_C_mHL, .bare .ld_C_A]

def primary5x : Vector PrimaryRow 16 :=
  #v[.bare .ld_D_B, .bare .ld_D_C, .bare .ld_D_D, .bare .ld_D_E, .bare .ld_D_H, .bare .ld_D_L, .bare .ld_D_mHL,
   .bare .ld_D_A, .bare .ld_E_B, .bare .ld_E_C, .bare .ld_E_D, .bare .ld_E_E, .bare .ld_E_H, .bare .ld_E_L,
   .bare .ld_E_mHL, .bare .ld_E_A]

def primary6x : Vector PrimaryRow 16 :=
  #v[.bare .ld_H_B, .bare .ld_H_C, .bare .ld_H_D, .bare .ld_H_E, .bare .ld_H_H, .bare .ld_H_L, .bare .ld_H_mHL,
   .bare .ld_H_A, .bare .ld_L_B, .bare .ld_L_C, .bare .ld_L_D, .bare .ld_L_E, .bare .ld_L_H, .bare .ld_L_L,
   .bare .ld_L_mHL, .bare .ld_L_A]

def primary7x : Vector PrimaryRow 16 :=
  #v[.bare .ld_mHL_B, .bare .ld_mHL_C, .bare .ld_mHL_D, .bare .ld_mHL_E, .bare .ld_mHL_H, .bare .ld_mHL_L,
   .bare .halt, .bare .ld_mHL_A, .bare .ld_A_B, .bare .ld_A_C, .bare .ld_A_D, .bare .ld_A_E, .bare .ld_A_H,
   .bare .ld_A_L, .bare .ld_A_mHL, .bare .ld_A_A]

def primary8x : Vector PrimaryRow 16 :=
  #v[.bare .add_A_B, .bare .add_A_C, .bare .add_A_D, .bare .add_A_E, .bare .add_A_H, .bare .add_A_L,
   .bare .add_A_mHL, .bare .add_A_A, .bare .adc_A_B, .bare .adc_A_C, .bare .adc_A_D, .bare .adc_A_E,
   .bare .adc_A_H, .bare .adc_A_L, .bare .adc_A_mHL, .bare .adc_A_A]

def primary9x : Vector PrimaryRow 16 :=
  #v[.bare .sub_A_B, .bare .sub_A_C, .bare .sub_A_D, .bare .sub_A_E, .bare .sub_A_H, .bare .sub_A_L,
   .bare .sub_A_mHL, .bare .sub_A_A, .bare .sbc_A_B, .bare .sbc_A_C, .bare .sbc_A_D, .bare .sbc_A_E,
   .bare .sbc_A_H, .bare .sbc_A_L, .bare .sbc_A_mHL, .bare .sbc_A_A]

def primaryAx : Vector PrimaryRow 16 :=
  #v[.bare .and_A_B, .bare .and_A_C, .bare .and_A_D, .bare .and_A_E, .bare .and_A_H, .bare .and_A_L,
   .bare .and_A_mHL, .bare .and_A_A, .bare .xor_A_B, .bare .xor_A_C, .bare .xor_A_D, .bare .xor_A_E,
   .bare .xor_A_H, .bare .xor_A_L, .bare .xor_A_mHL, .bare .xor_A_A]

def primaryBx : Vector PrimaryRow 16 :=
  #v[.bare .or_A_B, .bare .or_A_C, .bare .or_A_D, .bare .or_A_E, .bare .or_A_H, .bare .or_A_L, .bare .or_A_mHL,
   .bare .or_A_A, .bare .cp_A_B, .bare .cp_A_C, .bare .cp_A_D, .bare .cp_A_E, .bare .cp_A_H, .bare .cp_A_L,
   .bare .cp_A_mHL, .bare .cp_A_A]

def primaryCx : Vector PrimaryRow 16 :=
  #v[.bare .ret_NZ, .bare .pop_BC, .imm16 .jp_NZ_nn, .imm16 .jp_nn, .imm16 .call_NZ_nn, .bare .push_BC,
   .imm8 .add_A_n, .bare .rst_00H, .bare .ret_Z, .bare .ret, .imm16 .jp_Z_nn, .ext, .imm16 .call_Z_nn,
   .imm16 .call_nn, .imm8 .adc_A_n, .bare .rst_08H]

def primaryDx : Vector PrimaryRow 16 :=
  #v[.bare .ret_NC, .bare .pop_DE, .imm16 .jp_NC_nn, .bare .illegal_D3, .imm16 .call_NC_nn, .bare .push_DE,
   .imm8 .sub_A_n, .bare .rst_10H, .bare .ret_C, .bare .reti, .imm16 .jp_C_nn, .bare .illegal_DB,
   .imm16 .call_C_nn, .bare .illegal_DD, .imm8 .sbc_A_n, .bare .rst_18H]

def primaryEx : Vector PrimaryRow 16 :=
  #v[.imm8 .ldh_mN_A, .bare .pop_HL, .bare .ld_mC_A, .bare .illegal_E3, .bare .illegal_E4, .bare .push_HL,
   .imm8 .and_A_n, .bare .rst_20H, .imm8 .add_SP_e, .bare .jp_mHL, .imm16 .ld_mNN_A, .bare .illegal_EB,
   .bare .illegal_EC, .bare .illegal_ED, .imm8 .xor_A_n, .bare .rst_28H]

def primaryFx : Vector PrimaryRow 16 :=
  #v[.imm8 .ldh_A_mN, .bare .pop_AF, .bare .illegal_F2, .bare .di, .bare .illegal_F4, .bare .push_AF,
   .imm8 .or_A_n, .bare .rst_30H, .imm8 .ld_HL_SPe, .bare .ld_SP_HL, .imm16 .ld_A_mNN, .bare .ei,
   .bare .illegal_FC, .bare .illegal_FD, .imm8 .cp_A_n, .bare .rst_38H]

/-- The primary table as the grid of R107: row = high nibble, column = low nibble of the opcode byte. -/
def primaryGrid : Vector (Vector PrimaryRow 16) 16 :=
  #v[primary0x, primary1x, primary2x, primary3x, primary4x, primary5x, primary6x, primary7x,
    primary8x, primary9x, primaryAx, primaryBx, primaryCx, primaryDx, primaryEx, primaryFx]

/-! The extended table (R111, R114), one definition per two rows of eight; within a row of eight the operand runs over
`B, C, D, E, H, L, (HL), A` (R112). -/

def extended0x : Vector Instr 16 :=
  #v[.rlc_B, .rlc_C, .rlc_D, .rlc_E, .rlc_H, .rlc_L, .rlc_mHL, .rlc_A, .rrc_B, .rrc_C, .rrc_D, .rrc_E, .rrc_H,
   .rrc_L, .rrc_mHL, .rrc_A]

def extended1x : Vector Instr 16 :=
  #v[.rl_B, .rl_C, .rl_D, .rl_E, .rl_H, .rl_L, .rl_mHL, .rl_A, .rr_B, .rr_C, .rr_D, .rr_E, .rr_H, .rr_L, .rr_mHL,
   .rr_A]

def extended2x : Vector Instr 16 :=
  #v[.sla_B, .sla_C, .sla_D, .sla_E, .sla_H, .sla_L, .sla_mHL, .sla_A, .sra_B, .sra_C, .sra_D, .sra_E, .sra_H,
   .sra_L, .sra_mHL, .sra_A]

def extended3x : Vector Instr 16 :=
  #v[.swap_B, .swap_C, .swap_D, .swap_E, .swap_H, .swap_L, .swap_mHL, .swap_A, .srl_B, .srl_C, .srl_D, .srl_E,
   .srl_H, .srl_L, .srl_mHL, .srl_A]

def extended4x : Vector Instr 16 :=
  #v[.bit_0_B, .bit_0_C, .bit_0_D, .bit_0_E, .bit_0_H, .bit_0_L, .bit_0_mHL, .bit_0_A, .bit_1_B, .bit_1_C,
   .bit_1_D, .bit_1_E, .bit_1_H, .bit_1_L, .bit_1_mHL, .bit_1_A]

def extended5x : Vector Instr 16 :=
  #v[.bit_2_B, .bit_2_C, .bit_2_D, .bit_2_E, .bit_2_H, .bit_2_L, .bit_2_mHL, .bit_2_A, .bit_3_B, .bit_3_C,
   .bit_3_D, .bit_3_E, .bit_3_H, .bit_3_L, .bit_3_mHL, .bit_3_A]

def extended6x : Vector Instr 16 :=
  #v[.bit_4_B, .bit_4_C, .bit_4_D, .bit_4_E, .bit_4_H, .bit_4_L, .bit_4_mHL, .bit_4_A, .bit_5_B, .bit_5_C,
   .bit_5_D, .bit_5_E, .bit_5_H, .bit_5_L, .bit_5_mHL, .bit_5_A]

def extended7x : Vector Instr 16 :=
  #v[.bit_6_B, .bit_6_C, .bit_6_D, .bit_6_E, .bit_6_H, .bit_6_L, .bit_6_mHL, .bit_6_A, .bit_7_B, .bit_7_C,
   .bit_7_D, .bit_7_E, .bit_7_H, .bit_7_L, .bit_7_mHL, .bit_7_A]

def extended8x : Vector Instr 16 :=
  #v[.res_0_B, .res_0_C, .res_0_D, .res_0_E, .res_0_H, .res_0_L, .res_0_mHL, .res_0_A, .res_1_B, .res_1_C,
   .res_1_D, .res_1_E, .res_1_H, .res_1_L, .res_1_mHL, .res_1_A]

def extended9x : Vector Instr 16 :=
  #v[.res_2_B, .res_2_C, .res_2_D, .res_2_E, .res_2_H, .res_2_L, .res_2_mHL, .res_2_A, .res_3_B, .res_3_C,
   .res_3_D, .res_3_E, .res_3_H, .res_3_L, .res_3_mHL, .res_3_A]

def extendedAx : Vector Instr 16 :=
  #v[.res_4_B, .res_4_C, .res_4_D, .res_4_E, .res_4_H, .res_4_L, .res_4_mHL, .res_4_A, .res_5_B, .res_5_C,
   .res_5_D, .res_5_E, .res_5_H, .res_5_L, .res_5_mHL, .res_5_A]

def extendedBx : Vector Instr 16 :=
  #v[.res_6_B, .res_6_C, .res_6_D, .res_6_E, .res_6_H, .res_6_L, .res_6_mHL, .res_6_A, .res_7_B, .res_7_C,
   .res_7_D, .res_7_E, .res_7_H, .res_7_L, .res_7_mHL, .res_7_A]

def extendedCx : Vector Instr 16 :=
  #v[.set_0_B, .set_0_C, .set_0_D, .set_0_E, .set_0_H, .set_0_L, .set_0_mHL, .set_0_A, .set_1_B, .set_1_C,
   .set_1_D, .set_1_E, .set_1_H, .set_1_L, .set_1_mHL, .set_1_A]

def extendedDx : Vector Instr 16 :=
  #v[.set_2_B, .set_2_C, .set_2_D, .set_2_E, .set_2_H, .set_2_L, .set_2_mHL, .set_2_A, .set_3_B, .set_3_C,
   .set_3_D, .set_3_E, .set_3_H, .set_3_L, .set_3_mHL, .set_3_A]

def extendedEx : Vector Instr 16 :=
  #v[.set_4_B, .set_4_C, .set_4_D, .set_4_E, .set_4_H, .set_4_L, .set_4_mHL, .set_4_A, .set_5_B, .set_5_C,
   .set_5_D, .set_5_E, .set_5_H, .set_5_L, .set_5_mHL, .set_5_A]

def extendedFx : Vector Instr 16 :=
  #v[.set_6_B, .set_6_C, .set_6_D, .set_6_E, .set_6_H, .set_6_L, .set_6_mHL, .set_6_A, .set_7_B, .set_7_C,
   .set_7_D, .set_7_E, .set_7_H, .set_7_L, .set_7_mHL, .set_7_A]

/-- The extended table as a grid: row = high nibble, column = low nibble of the second byte. -/
def extendedGrid : Vector (Vector Instr 16) 16 :=
  #v[extended0x, extended1x, extended2x, extended3x, extended4x, extended5x, extended6x, extended7x,
    extended8x, extended9x, extendedAx, extendedBx, extendedCx, extendedDx, extendedEx, extendedFx]

/-- The high and the low nibble of a byte. -/
def nibbles (b : Byte) : Fin 16 × Fin 16 :=
  (⟨b.toNat / 16, by have := b.isLt; omega⟩, ⟨b.toNat % 16, Nat.mod_lt _ (by decide)⟩)

/-- The row of an opcode byte. -/
def primaryRow (op : Byte) : PrimaryRow :=
  primaryGrid[(nibbles op).1][(nibbles op).2]

/-- The instruction of the byte after 0xCB. -/
def extendedRow (sub : Byte) : Instr :=
  extendedGrid[(nibbles sub).1][(nibbles sub).2]

/-- The decoder (R115): the first instruction of a byte string and the bytes after it. -/
def decode : List Byte → Except DecodeReject (Instr × List Byte)
  | [] => .error .noByte
  | op :: rest =>
    match primaryRow op, rest with
    | .bare i, rest => .ok (i, rest)
    | .imm8 f, n :: rest => .ok (f n, rest)
    | .imm16 f, lo :: hi :: rest => .ok (f (wordOf hi lo), rest)
    | .ext, sub :: rest => .ok (extendedRow sub, rest)
    | _, _ => .error (.truncated op)

/-- The longest instruction in bytes (R100). -/
def longestInstr : Nat := 3

/-- The bytes of an instruction given as one number, bit 0 the least significant bit of the first byte, as many as the
longest instruction has; the bits from `nbits` up are 0. -/
def tableBytes (nbits w : Nat) : List Byte :=
  let v := w % 2 ^ nbits
  [BitVec.ofNat 8 v, BitVec.ofNat 8 (v / 256), BitVec.ofNat 8 (v / 65536)]

/-- The instruction the decoder reads from the word `w` of `nbits` bits, numbered as spec/opcode_table.json numbers them.
An extended instruction's word is 0xCB in bits 7..0 and its second byte in bits 15..8 (R100, Log 9). -/
def decodeTableWord (nbits w : Nat) : Option Instr :=
  match decode (tableBytes nbits w) with
  | .ok (i, _) => some i
  | .error _ => none

/-- The bytes of an instruction, in address order (R100, R107, R114). The bare prefix encodes to its one byte. -/
def encode : Instr → List Byte
  | .nop => [0x00]
  | .ld_BC_nn nn => [0x01, loByte nn, hiByte nn]
  | .ld_mBC_A => [0x02]
  | .inc_BC => [0x03]
  | .inc_B => [0x04]
  | .dec_B => [0x05]
  | .ld_B_n n => [0x06, n]
  | .rlca => [0x07]
  | .ld_mNN_SP nn => [0x08, loByte nn, hiByte nn]
  | .add_HL_BC => [0x09]
  | .ld_A_mBC => [0x0A]
  | .dec_BC => [0x0B]
  | .inc_C => [0x0C]
  | .dec_C => [0x0D]
  | .ld_C_n n => [0x0E, n]
  | .rrca => [0x0F]
  | .stop => [0x10]
  | .ld_DE_nn nn => [0x11, loByte nn, hiByte nn]
  | .ld_mDE_A => [0x12]
  | .inc_DE => [0x13]
  | .inc_D => [0x14]
  | .dec_D => [0x15]
  | .ld_D_n n => [0x16, n]
  | .rla => [0x17]
  | .jr_e e => [0x18, e]
  | .add_HL_DE => [0x19]
  | .ld_A_mDE => [0x1A]
  | .dec_DE => [0x1B]
  | .inc_E => [0x1C]
  | .dec_E => [0x1D]
  | .ld_E_n n => [0x1E, n]
  | .rra => [0x1F]
  | .jr_NZ_e e => [0x20, e]
  | .ld_HL_nn nn => [0x21, loByte nn, hiByte nn]
  | .ld_mHLI_A => [0x22]
  | .inc_HL => [0x23]
  | .inc_H => [0x24]
  | .dec_H => [0x25]
  | .ld_H_n n => [0x26, n]
  | .daa => [0x27]
  | .jr_Z_e e => [0x28, e]
  | .add_HL_HL => [0x29]
  | .ld_A_mHLI => [0x2A]
  | .dec_HL => [0x2B]
  | .inc_L => [0x2C]
  | .dec_L => [0x2D]
  | .ld_L_n n => [0x2E, n]
  | .cpl => [0x2F]
  | .jr_NC_e e => [0x30, e]
  | .ld_SP_nn nn => [0x31, loByte nn, hiByte nn]
  | .ld_mHLD_A => [0x32]
  | .inc_SP => [0x33]
  | .inc_mHL => [0x34]
  | .dec_mHL => [0x35]
  | .ld_mHL_n n => [0x36, n]
  | .scf => [0x37]
  | .jr_C_e e => [0x38, e]
  | .add_HL_SP => [0x39]
  | .ld_A_mHLD => [0x3A]
  | .dec_SP => [0x3B]
  | .inc_A => [0x3C]
  | .dec_A => [0x3D]
  | .ld_A_n n => [0x3E, n]
  | .ccf => [0x3F]
  | .ld_B_B => [0x40]
  | .ld_B_C => [0x41]
  | .ld_B_D => [0x42]
  | .ld_B_E => [0x43]
  | .ld_B_H => [0x44]
  | .ld_B_L => [0x45]
  | .ld_B_mHL => [0x46]
  | .ld_B_A => [0x47]
  | .ld_C_B => [0x48]
  | .ld_C_C => [0x49]
  | .ld_C_D => [0x4A]
  | .ld_C_E => [0x4B]
  | .ld_C_H => [0x4C]
  | .ld_C_L => [0x4D]
  | .ld_C_mHL => [0x4E]
  | .ld_C_A => [0x4F]
  | .ld_D_B => [0x50]
  | .ld_D_C => [0x51]
  | .ld_D_D => [0x52]
  | .ld_D_E => [0x53]
  | .ld_D_H => [0x54]
  | .ld_D_L => [0x55]
  | .ld_D_mHL => [0x56]
  | .ld_D_A => [0x57]
  | .ld_E_B => [0x58]
  | .ld_E_C => [0x59]
  | .ld_E_D => [0x5A]
  | .ld_E_E => [0x5B]
  | .ld_E_H => [0x5C]
  | .ld_E_L => [0x5D]
  | .ld_E_mHL => [0x5E]
  | .ld_E_A => [0x5F]
  | .ld_H_B => [0x60]
  | .ld_H_C => [0x61]
  | .ld_H_D => [0x62]
  | .ld_H_E => [0x63]
  | .ld_H_H => [0x64]
  | .ld_H_L => [0x65]
  | .ld_H_mHL => [0x66]
  | .ld_H_A => [0x67]
  | .ld_L_B => [0x68]
  | .ld_L_C => [0x69]
  | .ld_L_D => [0x6A]
  | .ld_L_E => [0x6B]
  | .ld_L_H => [0x6C]
  | .ld_L_L => [0x6D]
  | .ld_L_mHL => [0x6E]
  | .ld_L_A => [0x6F]
  | .ld_mHL_B => [0x70]
  | .ld_mHL_C => [0x71]
  | .ld_mHL_D => [0x72]
  | .ld_mHL_E => [0x73]
  | .ld_mHL_H => [0x74]
  | .ld_mHL_L => [0x75]
  | .halt => [0x76]
  | .ld_mHL_A => [0x77]
  | .ld_A_B => [0x78]
  | .ld_A_C => [0x79]
  | .ld_A_D => [0x7A]
  | .ld_A_E => [0x7B]
  | .ld_A_H => [0x7C]
  | .ld_A_L => [0x7D]
  | .ld_A_mHL => [0x7E]
  | .ld_A_A => [0x7F]
  | .add_A_B => [0x80]
  | .add_A_C => [0x81]
  | .add_A_D => [0x82]
  | .add_A_E => [0x83]
  | .add_A_H => [0x84]
  | .add_A_L => [0x85]
  | .add_A_mHL => [0x86]
  | .add_A_A => [0x87]
  | .adc_A_B => [0x88]
  | .adc_A_C => [0x89]
  | .adc_A_D => [0x8A]
  | .adc_A_E => [0x8B]
  | .adc_A_H => [0x8C]
  | .adc_A_L => [0x8D]
  | .adc_A_mHL => [0x8E]
  | .adc_A_A => [0x8F]
  | .sub_A_B => [0x90]
  | .sub_A_C => [0x91]
  | .sub_A_D => [0x92]
  | .sub_A_E => [0x93]
  | .sub_A_H => [0x94]
  | .sub_A_L => [0x95]
  | .sub_A_mHL => [0x96]
  | .sub_A_A => [0x97]
  | .sbc_A_B => [0x98]
  | .sbc_A_C => [0x99]
  | .sbc_A_D => [0x9A]
  | .sbc_A_E => [0x9B]
  | .sbc_A_H => [0x9C]
  | .sbc_A_L => [0x9D]
  | .sbc_A_mHL => [0x9E]
  | .sbc_A_A => [0x9F]
  | .and_A_B => [0xA0]
  | .and_A_C => [0xA1]
  | .and_A_D => [0xA2]
  | .and_A_E => [0xA3]
  | .and_A_H => [0xA4]
  | .and_A_L => [0xA5]
  | .and_A_mHL => [0xA6]
  | .and_A_A => [0xA7]
  | .xor_A_B => [0xA8]
  | .xor_A_C => [0xA9]
  | .xor_A_D => [0xAA]
  | .xor_A_E => [0xAB]
  | .xor_A_H => [0xAC]
  | .xor_A_L => [0xAD]
  | .xor_A_mHL => [0xAE]
  | .xor_A_A => [0xAF]
  | .or_A_B => [0xB0]
  | .or_A_C => [0xB1]
  | .or_A_D => [0xB2]
  | .or_A_E => [0xB3]
  | .or_A_H => [0xB4]
  | .or_A_L => [0xB5]
  | .or_A_mHL => [0xB6]
  | .or_A_A => [0xB7]
  | .cp_A_B => [0xB8]
  | .cp_A_C => [0xB9]
  | .cp_A_D => [0xBA]
  | .cp_A_E => [0xBB]
  | .cp_A_H => [0xBC]
  | .cp_A_L => [0xBD]
  | .cp_A_mHL => [0xBE]
  | .cp_A_A => [0xBF]
  | .ret_NZ => [0xC0]
  | .pop_BC => [0xC1]
  | .jp_NZ_nn nn => [0xC2, loByte nn, hiByte nn]
  | .jp_nn nn => [0xC3, loByte nn, hiByte nn]
  | .call_NZ_nn nn => [0xC4, loByte nn, hiByte nn]
  | .push_BC => [0xC5]
  | .add_A_n n => [0xC6, n]
  | .rst_00H => [0xC7]
  | .ret_Z => [0xC8]
  | .ret => [0xC9]
  | .jp_Z_nn nn => [0xCA, loByte nn, hiByte nn]
  | .prefix_CB => [0xCB]
  | .call_Z_nn nn => [0xCC, loByte nn, hiByte nn]
  | .call_nn nn => [0xCD, loByte nn, hiByte nn]
  | .adc_A_n n => [0xCE, n]
  | .rst_08H => [0xCF]
  | .ret_NC => [0xD0]
  | .pop_DE => [0xD1]
  | .jp_NC_nn nn => [0xD2, loByte nn, hiByte nn]
  | .illegal_D3 => [0xD3]
  | .call_NC_nn nn => [0xD4, loByte nn, hiByte nn]
  | .push_DE => [0xD5]
  | .sub_A_n n => [0xD6, n]
  | .rst_10H => [0xD7]
  | .ret_C => [0xD8]
  | .reti => [0xD9]
  | .jp_C_nn nn => [0xDA, loByte nn, hiByte nn]
  | .illegal_DB => [0xDB]
  | .call_C_nn nn => [0xDC, loByte nn, hiByte nn]
  | .illegal_DD => [0xDD]
  | .sbc_A_n n => [0xDE, n]
  | .rst_18H => [0xDF]
  | .ldh_mN_A n => [0xE0, n]
  | .pop_HL => [0xE1]
  | .ld_mC_A => [0xE2]
  | .illegal_E3 => [0xE3]
  | .illegal_E4 => [0xE4]
  | .push_HL => [0xE5]
  | .and_A_n n => [0xE6, n]
  | .rst_20H => [0xE7]
  | .add_SP_e e => [0xE8, e]
  | .jp_mHL => [0xE9]
  | .ld_mNN_A nn => [0xEA, loByte nn, hiByte nn]
  | .illegal_EB => [0xEB]
  | .illegal_EC => [0xEC]
  | .illegal_ED => [0xED]
  | .xor_A_n n => [0xEE, n]
  | .rst_28H => [0xEF]
  | .ldh_A_mN n => [0xF0, n]
  | .pop_AF => [0xF1]
  | .illegal_F2 => [0xF2]
  | .di => [0xF3]
  | .illegal_F4 => [0xF4]
  | .push_AF => [0xF5]
  | .or_A_n n => [0xF6, n]
  | .rst_30H => [0xF7]
  | .ld_HL_SPe e => [0xF8, e]
  | .ld_SP_HL => [0xF9]
  | .ld_A_mNN nn => [0xFA, loByte nn, hiByte nn]
  | .ei => [0xFB]
  | .illegal_FC => [0xFC]
  | .illegal_FD => [0xFD]
  | .cp_A_n n => [0xFE, n]
  | .rst_38H => [0xFF]
  | .rlc_B => [0xCB, 0x00]
  | .rlc_C => [0xCB, 0x01]
  | .rlc_D => [0xCB, 0x02]
  | .rlc_E => [0xCB, 0x03]
  | .rlc_H => [0xCB, 0x04]
  | .rlc_L => [0xCB, 0x05]
  | .rlc_mHL => [0xCB, 0x06]
  | .rlc_A => [0xCB, 0x07]
  | .rrc_B => [0xCB, 0x08]
  | .rrc_C => [0xCB, 0x09]
  | .rrc_D => [0xCB, 0x0A]
  | .rrc_E => [0xCB, 0x0B]
  | .rrc_H => [0xCB, 0x0C]
  | .rrc_L => [0xCB, 0x0D]
  | .rrc_mHL => [0xCB, 0x0E]
  | .rrc_A => [0xCB, 0x0F]
  | .rl_B => [0xCB, 0x10]
  | .rl_C => [0xCB, 0x11]
  | .rl_D => [0xCB, 0x12]
  | .rl_E => [0xCB, 0x13]
  | .rl_H => [0xCB, 0x14]
  | .rl_L => [0xCB, 0x15]
  | .rl_mHL => [0xCB, 0x16]
  | .rl_A => [0xCB, 0x17]
  | .rr_B => [0xCB, 0x18]
  | .rr_C => [0xCB, 0x19]
  | .rr_D => [0xCB, 0x1A]
  | .rr_E => [0xCB, 0x1B]
  | .rr_H => [0xCB, 0x1C]
  | .rr_L => [0xCB, 0x1D]
  | .rr_mHL => [0xCB, 0x1E]
  | .rr_A => [0xCB, 0x1F]
  | .sla_B => [0xCB, 0x20]
  | .sla_C => [0xCB, 0x21]
  | .sla_D => [0xCB, 0x22]
  | .sla_E => [0xCB, 0x23]
  | .sla_H => [0xCB, 0x24]
  | .sla_L => [0xCB, 0x25]
  | .sla_mHL => [0xCB, 0x26]
  | .sla_A => [0xCB, 0x27]
  | .sra_B => [0xCB, 0x28]
  | .sra_C => [0xCB, 0x29]
  | .sra_D => [0xCB, 0x2A]
  | .sra_E => [0xCB, 0x2B]
  | .sra_H => [0xCB, 0x2C]
  | .sra_L => [0xCB, 0x2D]
  | .sra_mHL => [0xCB, 0x2E]
  | .sra_A => [0xCB, 0x2F]
  | .swap_B => [0xCB, 0x30]
  | .swap_C => [0xCB, 0x31]
  | .swap_D => [0xCB, 0x32]
  | .swap_E => [0xCB, 0x33]
  | .swap_H => [0xCB, 0x34]
  | .swap_L => [0xCB, 0x35]
  | .swap_mHL => [0xCB, 0x36]
  | .swap_A => [0xCB, 0x37]
  | .srl_B => [0xCB, 0x38]
  | .srl_C => [0xCB, 0x39]
  | .srl_D => [0xCB, 0x3A]
  | .srl_E => [0xCB, 0x3B]
  | .srl_H => [0xCB, 0x3C]
  | .srl_L => [0xCB, 0x3D]
  | .srl_mHL => [0xCB, 0x3E]
  | .srl_A => [0xCB, 0x3F]
  | .bit_0_B => [0xCB, 0x40]
  | .bit_0_C => [0xCB, 0x41]
  | .bit_0_D => [0xCB, 0x42]
  | .bit_0_E => [0xCB, 0x43]
  | .bit_0_H => [0xCB, 0x44]
  | .bit_0_L => [0xCB, 0x45]
  | .bit_0_mHL => [0xCB, 0x46]
  | .bit_0_A => [0xCB, 0x47]
  | .bit_1_B => [0xCB, 0x48]
  | .bit_1_C => [0xCB, 0x49]
  | .bit_1_D => [0xCB, 0x4A]
  | .bit_1_E => [0xCB, 0x4B]
  | .bit_1_H => [0xCB, 0x4C]
  | .bit_1_L => [0xCB, 0x4D]
  | .bit_1_mHL => [0xCB, 0x4E]
  | .bit_1_A => [0xCB, 0x4F]
  | .bit_2_B => [0xCB, 0x50]
  | .bit_2_C => [0xCB, 0x51]
  | .bit_2_D => [0xCB, 0x52]
  | .bit_2_E => [0xCB, 0x53]
  | .bit_2_H => [0xCB, 0x54]
  | .bit_2_L => [0xCB, 0x55]
  | .bit_2_mHL => [0xCB, 0x56]
  | .bit_2_A => [0xCB, 0x57]
  | .bit_3_B => [0xCB, 0x58]
  | .bit_3_C => [0xCB, 0x59]
  | .bit_3_D => [0xCB, 0x5A]
  | .bit_3_E => [0xCB, 0x5B]
  | .bit_3_H => [0xCB, 0x5C]
  | .bit_3_L => [0xCB, 0x5D]
  | .bit_3_mHL => [0xCB, 0x5E]
  | .bit_3_A => [0xCB, 0x5F]
  | .bit_4_B => [0xCB, 0x60]
  | .bit_4_C => [0xCB, 0x61]
  | .bit_4_D => [0xCB, 0x62]
  | .bit_4_E => [0xCB, 0x63]
  | .bit_4_H => [0xCB, 0x64]
  | .bit_4_L => [0xCB, 0x65]
  | .bit_4_mHL => [0xCB, 0x66]
  | .bit_4_A => [0xCB, 0x67]
  | .bit_5_B => [0xCB, 0x68]
  | .bit_5_C => [0xCB, 0x69]
  | .bit_5_D => [0xCB, 0x6A]
  | .bit_5_E => [0xCB, 0x6B]
  | .bit_5_H => [0xCB, 0x6C]
  | .bit_5_L => [0xCB, 0x6D]
  | .bit_5_mHL => [0xCB, 0x6E]
  | .bit_5_A => [0xCB, 0x6F]
  | .bit_6_B => [0xCB, 0x70]
  | .bit_6_C => [0xCB, 0x71]
  | .bit_6_D => [0xCB, 0x72]
  | .bit_6_E => [0xCB, 0x73]
  | .bit_6_H => [0xCB, 0x74]
  | .bit_6_L => [0xCB, 0x75]
  | .bit_6_mHL => [0xCB, 0x76]
  | .bit_6_A => [0xCB, 0x77]
  | .bit_7_B => [0xCB, 0x78]
  | .bit_7_C => [0xCB, 0x79]
  | .bit_7_D => [0xCB, 0x7A]
  | .bit_7_E => [0xCB, 0x7B]
  | .bit_7_H => [0xCB, 0x7C]
  | .bit_7_L => [0xCB, 0x7D]
  | .bit_7_mHL => [0xCB, 0x7E]
  | .bit_7_A => [0xCB, 0x7F]
  | .res_0_B => [0xCB, 0x80]
  | .res_0_C => [0xCB, 0x81]
  | .res_0_D => [0xCB, 0x82]
  | .res_0_E => [0xCB, 0x83]
  | .res_0_H => [0xCB, 0x84]
  | .res_0_L => [0xCB, 0x85]
  | .res_0_mHL => [0xCB, 0x86]
  | .res_0_A => [0xCB, 0x87]
  | .res_1_B => [0xCB, 0x88]
  | .res_1_C => [0xCB, 0x89]
  | .res_1_D => [0xCB, 0x8A]
  | .res_1_E => [0xCB, 0x8B]
  | .res_1_H => [0xCB, 0x8C]
  | .res_1_L => [0xCB, 0x8D]
  | .res_1_mHL => [0xCB, 0x8E]
  | .res_1_A => [0xCB, 0x8F]
  | .res_2_B => [0xCB, 0x90]
  | .res_2_C => [0xCB, 0x91]
  | .res_2_D => [0xCB, 0x92]
  | .res_2_E => [0xCB, 0x93]
  | .res_2_H => [0xCB, 0x94]
  | .res_2_L => [0xCB, 0x95]
  | .res_2_mHL => [0xCB, 0x96]
  | .res_2_A => [0xCB, 0x97]
  | .res_3_B => [0xCB, 0x98]
  | .res_3_C => [0xCB, 0x99]
  | .res_3_D => [0xCB, 0x9A]
  | .res_3_E => [0xCB, 0x9B]
  | .res_3_H => [0xCB, 0x9C]
  | .res_3_L => [0xCB, 0x9D]
  | .res_3_mHL => [0xCB, 0x9E]
  | .res_3_A => [0xCB, 0x9F]
  | .res_4_B => [0xCB, 0xA0]
  | .res_4_C => [0xCB, 0xA1]
  | .res_4_D => [0xCB, 0xA2]
  | .res_4_E => [0xCB, 0xA3]
  | .res_4_H => [0xCB, 0xA4]
  | .res_4_L => [0xCB, 0xA5]
  | .res_4_mHL => [0xCB, 0xA6]
  | .res_4_A => [0xCB, 0xA7]
  | .res_5_B => [0xCB, 0xA8]
  | .res_5_C => [0xCB, 0xA9]
  | .res_5_D => [0xCB, 0xAA]
  | .res_5_E => [0xCB, 0xAB]
  | .res_5_H => [0xCB, 0xAC]
  | .res_5_L => [0xCB, 0xAD]
  | .res_5_mHL => [0xCB, 0xAE]
  | .res_5_A => [0xCB, 0xAF]
  | .res_6_B => [0xCB, 0xB0]
  | .res_6_C => [0xCB, 0xB1]
  | .res_6_D => [0xCB, 0xB2]
  | .res_6_E => [0xCB, 0xB3]
  | .res_6_H => [0xCB, 0xB4]
  | .res_6_L => [0xCB, 0xB5]
  | .res_6_mHL => [0xCB, 0xB6]
  | .res_6_A => [0xCB, 0xB7]
  | .res_7_B => [0xCB, 0xB8]
  | .res_7_C => [0xCB, 0xB9]
  | .res_7_D => [0xCB, 0xBA]
  | .res_7_E => [0xCB, 0xBB]
  | .res_7_H => [0xCB, 0xBC]
  | .res_7_L => [0xCB, 0xBD]
  | .res_7_mHL => [0xCB, 0xBE]
  | .res_7_A => [0xCB, 0xBF]
  | .set_0_B => [0xCB, 0xC0]
  | .set_0_C => [0xCB, 0xC1]
  | .set_0_D => [0xCB, 0xC2]
  | .set_0_E => [0xCB, 0xC3]
  | .set_0_H => [0xCB, 0xC4]
  | .set_0_L => [0xCB, 0xC5]
  | .set_0_mHL => [0xCB, 0xC6]
  | .set_0_A => [0xCB, 0xC7]
  | .set_1_B => [0xCB, 0xC8]
  | .set_1_C => [0xCB, 0xC9]
  | .set_1_D => [0xCB, 0xCA]
  | .set_1_E => [0xCB, 0xCB]
  | .set_1_H => [0xCB, 0xCC]
  | .set_1_L => [0xCB, 0xCD]
  | .set_1_mHL => [0xCB, 0xCE]
  | .set_1_A => [0xCB, 0xCF]
  | .set_2_B => [0xCB, 0xD0]
  | .set_2_C => [0xCB, 0xD1]
  | .set_2_D => [0xCB, 0xD2]
  | .set_2_E => [0xCB, 0xD3]
  | .set_2_H => [0xCB, 0xD4]
  | .set_2_L => [0xCB, 0xD5]
  | .set_2_mHL => [0xCB, 0xD6]
  | .set_2_A => [0xCB, 0xD7]
  | .set_3_B => [0xCB, 0xD8]
  | .set_3_C => [0xCB, 0xD9]
  | .set_3_D => [0xCB, 0xDA]
  | .set_3_E => [0xCB, 0xDB]
  | .set_3_H => [0xCB, 0xDC]
  | .set_3_L => [0xCB, 0xDD]
  | .set_3_mHL => [0xCB, 0xDE]
  | .set_3_A => [0xCB, 0xDF]
  | .set_4_B => [0xCB, 0xE0]
  | .set_4_C => [0xCB, 0xE1]
  | .set_4_D => [0xCB, 0xE2]
  | .set_4_E => [0xCB, 0xE3]
  | .set_4_H => [0xCB, 0xE4]
  | .set_4_L => [0xCB, 0xE5]
  | .set_4_mHL => [0xCB, 0xE6]
  | .set_4_A => [0xCB, 0xE7]
  | .set_5_B => [0xCB, 0xE8]
  | .set_5_C => [0xCB, 0xE9]
  | .set_5_D => [0xCB, 0xEA]
  | .set_5_E => [0xCB, 0xEB]
  | .set_5_H => [0xCB, 0xEC]
  | .set_5_L => [0xCB, 0xED]
  | .set_5_mHL => [0xCB, 0xEE]
  | .set_5_A => [0xCB, 0xEF]
  | .set_6_B => [0xCB, 0xF0]
  | .set_6_C => [0xCB, 0xF1]
  | .set_6_D => [0xCB, 0xF2]
  | .set_6_E => [0xCB, 0xF3]
  | .set_6_H => [0xCB, 0xF4]
  | .set_6_L => [0xCB, 0xF5]
  | .set_6_mHL => [0xCB, 0xF6]
  | .set_6_A => [0xCB, 0xF7]
  | .set_7_B => [0xCB, 0xF8]
  | .set_7_C => [0xCB, 0xF9]
  | .set_7_D => [0xCB, 0xFA]
  | .set_7_E => [0xCB, 0xFB]
  | .set_7_H => [0xCB, 0xFC]
  | .set_7_L => [0xCB, 0xFD]
  | .set_7_mHL => [0xCB, 0xFE]
  | .set_7_A => [0xCB, 0xFF]

end Sys2Proof
end

