-- ==== Sys2Proof/Machine/Fetch.lean ====
section
/-! DEFINITION. The run loop's steps 1 to 4 (60_exceptions.md R500): overlay removal, fetch, history, decode; and the
placing of an instruction where the next step fetches it. -/

namespace Sys2Proof.Machine

/-- Step 1 (R501): a step that starts with `pc = 0x0100` removes the boot overlay. -/
def leaveBoot (s : State) : State :=
  if s.pc = 0x0100#16 then { s with bootOverlay := false } else s

/-- The bytes after the opcode, fetched in address order (R116), and the instruction they give. -/
def fetchOperands (op : Byte) : Exec Instr :=
  match primaryRow op with
  | .bare i => pure i
  | .imm8 f => do
    let n ← fetch8
    return f n
  | .imm16 f => do
    let nn ← fetch16
    return f nn
  | .ext => do
    let sub ← fetch8
    return extendedRow sub

/-- Steps 1 to 4 (R500): the instruction at `pc` with the state to execute it in, or, when a fetch raises, the state after
the recovery of R505. A failed opcode fetch makes no history entry and logs no opcode (R509). -/
def fetchInstr (s : State) : Except State (Instr × State) :=
  let s₀ := leaveBoot s
  match fetch8 s₀ with
  | .error e t => .error (takeError e none s₀.pc t)
  | .ok op t =>
    match fetchOperands op (t.record s₀.pc op) with
    | .error e u => .error (takeError e (some op) s₀.pc u)
    | .ok i u => .ok (i, u)

/-- Store a byte where a fetch of address `a` in the next step reads it: in the boot program while the overlay covers `a`, in
a PPU register, or in memory. It reaches ROM too: it stands for the loading of a program, not for a store of the machine. -/
def plantByte (s : State) (a : Word) (v : Byte) : State :=
  if (leaveBoot s).bootOverlay && decide (a.toNat < 0x100) then { s with bootRom := s.bootRom.write a.toNat v }
  else if ppuRegister a.toNat then { s with ppu := s.ppu.writeReg s.cfg.lcdcBits a.toNat v }
  else { s with mem := s.mem.write a.toNat v }

/-- Store bytes at consecutive addresses, wrapping. -/
def plantBytes (s : State) (a : Word) : List Byte → State
  | [] => s
  | v :: rest => plantBytes (plantByte s a v) (a + 1) rest

/-- Make sure the next step runs and no fetch of `n` bytes from `pc` raises. -/
def enableFetch (s : State) (n : Nat) : State :=
  { s with
    running := true
    cfg := { s.cfg with unmapped := s.cfg.unmapped.filter (fun a => decide (n ≤ (a - s.pc).toNat)) } }

end Sys2Proof.Machine
end

