-- ==== Sys2Proof/Machine/Step.lean ====
section
/-! DEFINITION. One step of the machine: one iteration of the run loop (60_exceptions.md R500). -/

namespace Sys2Proof.Machine

/-- The step function (R500). When `running` is false no state changes (R516). -/
def step (s : State) : Host.Outcome State Fault Refusal :=
  if s.running then
    match fetchInstr s with
    | .ok (i, t) => exec i t
    | .error t => .next t
  else .next s

/-- `s` with the instruction of the word `w` (its bits above `nbits` zero) where the next step fetches (Log 16). -/
def State.withFetchWord (s : State) (nbits w : Nat) : State :=
  plantBytes (enableFetch s longestInstr) s.pc (tableBytes nbits w)

end Sys2Proof.Machine
end

