-- ==== Sys2Proof/Forms.lean ====
section
/-! DEFINITION. The instructions by form and operands, as the rules of 41_load8.md to 47_system.md group them (30_encoding.md
R117), and the encoding fields of R103 to R105, R113 and R114. The obligations speak of the instructions through these names;
the machine does not use them. -/

namespace Sys2Proof

/-! ## Operand codes -/

/-- The code of a register (R103). -/
def Reg8.code : Reg8 → Nat
  | .B => 0
  | .C => 1
  | .D => 2
  | .E => 3
  | .H => 4
  | .L => 5
  | .A => 7

/-- The code of an 8-bit operand (R103). -/
def Operand8.code : Operand8 → Nat
  | .reg r => r.code
  | .mHL => 6

/-- The code of a pair (R104). -/
def Pair.code : Pair → Nat
  | .BC => 0
  | .DE => 1
  | .HL => 2

/-- The code of a 16-bit operand, 3 = `SP` (R104). -/
def Reg16.code : Reg16 → Nat
  | .pair p => p.code
  | .SP => 3

/-- The code of a stack operand, 3 = `AF` (R104). -/
def StackReg.code : StackReg → Nat
  | .pair p => p.code
  | .AF => 3

/-- The code of a condition (R105). -/
def Cond.code : Cond → Nat
  | .NZ => 0
  | .Z => 1
  | .NC => 2
  | .C => 3

/-- The place of an accumulator operation in `10 ooo zzz` and `11 ooo 110` (43_arith8.md). -/
def AccOp.code : AccOp → Nat
  | .add => 0
  | .adc => 1
  | .sub => 2
  | .sbc => 3
  | .and => 4
  | .xor => 5
  | .or => 6
  | .cp => 7

/-- The place of a rotate, shift or swap in `00 ooo zzz` of the extended table (R114). -/
def RotOp.code : RotOp → Nat
  | .rlc => 0
  | .rrc => 1
  | .rl => 2
  | .rr => 3
  | .sla => 4
  | .sra => 5
  | .swap => 6
  | .srl => 7

/-! ## Choosing by operand -/

/-- One of seven values by register, in the order of the codes. -/
def Reg8.pick {α : Type} (r : Reg8) (b c d e h l a : α) : α :=
  match r with
  | .B => b
  | .C => c
  | .D => d
  | .E => e
  | .H => h
  | .L => l
  | .A => a

/-- One of eight values by operand, in the order of the codes. -/
def Operand8.pick {α : Type} (o : Operand8) (b c d e h l m a : α) : α :=
  match o with
  | .reg r => r.pick b c d e h l a
  | .mHL => m

/-- One of four values by 16-bit operand. -/
def Reg16.pick {α : Type} (r : Reg16) (bc de hl sp : α) : α :=
  match r with
  | .pair .BC => bc
  | .pair .DE => de
  | .pair .HL => hl
  | .SP => sp

/-- One of four values by stack operand. -/
def StackReg.pick {α : Type} (r : StackReg) (bc de hl af : α) : α :=
  match r with
  | .pair .BC => bc
  | .pair .DE => de
  | .pair .HL => hl
  | .AF => af

/-- One of four values by condition. -/
def Cond.pick {α : Type} (cc : Cond) (nz z nc c : α) : α :=
  match cc with
  | .NZ => nz
  | .Z => z
  | .NC => nc
  | .C => c

namespace Instr

/-! ## Loads -/

/-- `LD r,r'` (R200). -/
def ldRegReg (d r : Reg8) : Instr :=
  match d with
  | .B => r.pick .ld_B_B .ld_B_C .ld_B_D .ld_B_E .ld_B_H .ld_B_L .ld_B_A
  | .C => r.pick .ld_C_B .ld_C_C .ld_C_D .ld_C_E .ld_C_H .ld_C_L .ld_C_A
  | .D => r.pick .ld_D_B .ld_D_C .ld_D_D .ld_D_E .ld_D_H .ld_D_L .ld_D_A
  | .E => r.pick .ld_E_B .ld_E_C .ld_E_D .ld_E_E .ld_E_H .ld_E_L .ld_E_A
  | .H => r.pick .ld_H_B .ld_H_C .ld_H_D .ld_H_E .ld_H_H .ld_H_L .ld_H_A
  | .L => r.pick .ld_L_B .ld_L_C .ld_L_D .ld_L_E .ld_L_H .ld_L_L .ld_L_A
  | .A => r.pick .ld_A_B .ld_A_C .ld_A_D .ld_A_E .ld_A_H .ld_A_L .ld_A_A

/-- `LD r,n` (R201). -/
def ldRegImm (d : Reg8) (n : Byte) : Instr :=
  d.pick (.ld_B_n n) (.ld_C_n n) (.ld_D_n n) (.ld_E_n n) (.ld_H_n n) (.ld_L_n n) (.ld_A_n n)

/-- `LD r,(HL)` (R202). -/
def ldRegMem (d : Reg8) : Instr :=
  d.pick .ld_B_mHL .ld_C_mHL .ld_D_mHL .ld_E_mHL .ld_H_mHL .ld_L_mHL .ld_A_mHL

/-- `LD (HL),r` (R203). -/
def ldMemReg (r : Reg8) : Instr :=
  r.pick .ld_mHL_B .ld_mHL_C .ld_mHL_D .ld_mHL_E .ld_mHL_H .ld_mHL_L .ld_mHL_A

/-- `LD rr,nn` (R230). -/
def ldReg16Imm (r : Reg16) (nn : Word) : Instr :=
  r.pick (.ld_BC_nn nn) (.ld_DE_nn nn) (.ld_HL_nn nn) (.ld_SP_nn nn)

/-- `PUSH rr` (R234). -/
def pushReg (r : StackReg) : Instr := r.pick .push_BC .push_DE .push_HL .push_AF

/-- `POP rr` (R235). -/
def popReg (r : StackReg) : Instr := r.pick .pop_BC .pop_DE .pop_HL .pop_AF

/-! ## Arithmetic and logic -/

/-- `ADD`, `ADC`, `SUB`, `SBC`, `AND`, `XOR`, `OR`, `CP A,s` (R250 to R257). -/
def acc (op : AccOp) (src : Source) : Instr :=
  match op, src with
  | .add, .op o => o.pick .add_A_B .add_A_C .add_A_D .add_A_E .add_A_H .add_A_L .add_A_mHL .add_A_A
  | .add, .imm n => .add_A_n n
  | .adc, .op o => o.pick .adc_A_B .adc_A_C .adc_A_D .adc_A_E .adc_A_H .adc_A_L .adc_A_mHL .adc_A_A
  | .adc, .imm n => .adc_A_n n
  | .sub, .op o => o.pick .sub_A_B .sub_A_C .sub_A_D .sub_A_E .sub_A_H .sub_A_L .sub_A_mHL .sub_A_A
  | .sub, .imm n => .sub_A_n n
  | .sbc, .op o => o.pick .sbc_A_B .sbc_A_C .sbc_A_D .sbc_A_E .sbc_A_H .sbc_A_L .sbc_A_mHL .sbc_A_A
  | .sbc, .imm n => .sbc_A_n n
  | .and, .op o => o.pick .and_A_B .and_A_C .and_A_D .and_A_E .and_A_H .and_A_L .and_A_mHL .and_A_A
  | .and, .imm n => .and_A_n n
  | .xor, .op o => o.pick .xor_A_B .xor_A_C .xor_A_D .xor_A_E .xor_A_H .xor_A_L .xor_A_mHL .xor_A_A
  | .xor, .imm n => .xor_A_n n
  | .or, .op o => o.pick .or_A_B .or_A_C .or_A_D .or_A_E .or_A_H .or_A_L .or_A_mHL .or_A_A
  | .or, .imm n => .or_A_n n
  | .cp, .op o => o.pick .cp_A_B .cp_A_C .cp_A_D .cp_A_E .cp_A_H .cp_A_L .cp_A_mHL .cp_A_A
  | .cp, .imm n => .cp_A_n n

/-- `INC r`, `INC (HL)` (R258, R259). -/
def incOp (o : Operand8) : Instr :=
  o.pick .inc_B .inc_C .inc_D .inc_E .inc_H .inc_L .inc_mHL .inc_A

/-- `DEC r`, `DEC (HL)` (R260, R261). -/
def decOp (o : Operand8) : Instr :=
  o.pick .dec_B .dec_C .dec_D .dec_E .dec_H .dec_L .dec_mHL .dec_A

/-- `INC rr` (R280). -/
def incReg16 (r : Reg16) : Instr := r.pick .inc_BC .inc_DE .inc_HL .inc_SP

/-- `DEC rr` (R281). -/
def decReg16 (r : Reg16) : Instr := r.pick .dec_BC .dec_DE .dec_HL .dec_SP

/-- `ADD HL,rr` (R282). -/
def addHL (r : Reg16) : Instr := r.pick .add_HL_BC .add_HL_DE .add_HL_HL .add_HL_SP

/-! ## Control transfer -/

/-- `JP cc,nn` (R302). -/
def jpIf (cc : Cond) (nn : Word) : Instr :=
  cc.pick (.jp_NZ_nn nn) (.jp_Z_nn nn) (.jp_NC_nn nn) (.jp_C_nn nn)

/-- `JR cc,e` (R305). -/
def jrIf (cc : Cond) (e : Byte) : Instr :=
  cc.pick (.jr_NZ_e e) (.jr_Z_e e) (.jr_NC_e e) (.jr_C_e e)

/-- `CALL cc,nn` (R307). -/
def callIf (cc : Cond) (nn : Word) : Instr :=
  cc.pick (.call_NZ_nn nn) (.call_Z_nn nn) (.call_NC_nn nn) (.call_C_nn nn)

/-- `RET cc` (R309). -/
def retIf (cc : Cond) : Instr := cc.pick .ret_NZ .ret_Z .ret_NC .ret_C

/-- `RST 8·y` (R311). -/
def rst (y : Fin 8) : Instr :=
  match y with
  | 0 => .rst_00H
  | 1 => .rst_08H
  | 2 => .rst_10H
  | 3 => .rst_18H
  | 4 => .rst_20H
  | 5 => .rst_28H
  | 6 => .rst_30H
  | 7 => .rst_38H

/-! ## The extended table -/

/-- `RLC`, `RRC`, `RL`, `RR`, `SLA`, `SRA`, `SWAP`, `SRL s` (R331 to R338). -/
def rot (op : RotOp) (o : Operand8) : Instr :=
  match op with
  | .rlc => o.pick .rlc_B .rlc_C .rlc_D .rlc_E .rlc_H .rlc_L .rlc_mHL .rlc_A
  | .rrc => o.pick .rrc_B .rrc_C .rrc_D .rrc_E .rrc_H .rrc_L .rrc_mHL .rrc_A
  | .rl => o.pick .rl_B .rl_C .rl_D .rl_E .rl_H .rl_L .rl_mHL .rl_A
  | .rr => o.pick .rr_B .rr_C .rr_D .rr_E .rr_H .rr_L .rr_mHL .rr_A
  | .sla => o.pick .sla_B .sla_C .sla_D .sla_E .sla_H .sla_L .sla_mHL .sla_A
  | .sra => o.pick .sra_B .sra_C .sra_D .sra_E .sra_H .sra_L .sra_mHL .sra_A
  | .swap => o.pick .swap_B .swap_C .swap_D .swap_E .swap_H .swap_L .swap_mHL .swap_A
  | .srl => o.pick .srl_B .srl_C .srl_D .srl_E .srl_H .srl_L .srl_mHL .srl_A

/-- `BIT b,s` (R339). -/
def bit (b : Fin 8) (o : Operand8) : Instr :=
  match b with
  | 0 => o.pick .bit_0_B .bit_0_C .bit_0_D .bit_0_E .bit_0_H .bit_0_L .bit_0_mHL .bit_0_A
  | 1 => o.pick .bit_1_B .bit_1_C .bit_1_D .bit_1_E .bit_1_H .bit_1_L .bit_1_mHL .bit_1_A
  | 2 => o.pick .bit_2_B .bit_2_C .bit_2_D .bit_2_E .bit_2_H .bit_2_L .bit_2_mHL .bit_2_A
  | 3 => o.pick .bit_3_B .bit_3_C .bit_3_D .bit_3_E .bit_3_H .bit_3_L .bit_3_mHL .bit_3_A
  | 4 => o.pick .bit_4_B .bit_4_C .bit_4_D .bit_4_E .bit_4_H .bit_4_L .bit_4_mHL .bit_4_A
  | 5 => o.pick .bit_5_B .bit_5_C .bit_5_D .bit_5_E .bit_5_H .bit_5_L .bit_5_mHL .bit_5_A
  | 6 => o.pick .bit_6_B .bit_6_C .bit_6_D .bit_6_E .bit_6_H .bit_6_L .bit_6_mHL .bit_6_A
  | 7 => o.pick .bit_7_B .bit_7_C .bit_7_D .bit_7_E .bit_7_H .bit_7_L .bit_7_mHL .bit_7_A

/-- `RES b,s` (R340). -/
def res (b : Fin 8) (o : Operand8) : Instr :=
  match b with
  | 0 => o.pick .res_0_B .res_0_C .res_0_D .res_0_E .res_0_H .res_0_L .res_0_mHL .res_0_A
  | 1 => o.pick .res_1_B .res_1_C .res_1_D .res_1_E .res_1_H .res_1_L .res_1_mHL .res_1_A
  | 2 => o.pick .res_2_B .res_2_C .res_2_D .res_2_E .res_2_H .res_2_L .res_2_mHL .res_2_A
  | 3 => o.pick .res_3_B .res_3_C .res_3_D .res_3_E .res_3_H .res_3_L .res_3_mHL .res_3_A
  | 4 => o.pick .res_4_B .res_4_C .res_4_D .res_4_E .res_4_H .res_4_L .res_4_mHL .res_4_A
  | 5 => o.pick .res_5_B .res_5_C .res_5_D .res_5_E .res_5_H .res_5_L .res_5_mHL .res_5_A
  | 6 => o.pick .res_6_B .res_6_C .res_6_D .res_6_E .res_6_H .res_6_L .res_6_mHL .res_6_A
  | 7 => o.pick .res_7_B .res_7_C .res_7_D .res_7_E .res_7_H .res_7_L .res_7_mHL .res_7_A

/-- `SET b,s` (R341). -/
def set (b : Fin 8) (o : Operand8) : Instr :=
  match b with
  | 0 => o.pick .set_0_B .set_0_C .set_0_D .set_0_E .set_0_H .set_0_L .set_0_mHL .set_0_A
  | 1 => o.pick .set_1_B .set_1_C .set_1_D .set_1_E .set_1_H .set_1_L .set_1_mHL .set_1_A
  | 2 => o.pick .set_2_B .set_2_C .set_2_D .set_2_E .set_2_H .set_2_L .set_2_mHL .set_2_A
  | 3 => o.pick .set_3_B .set_3_C .set_3_D .set_3_E .set_3_H .set_3_L .set_3_mHL .set_3_A
  | 4 => o.pick .set_4_B .set_4_C .set_4_D .set_4_E .set_4_H .set_4_L .set_4_mHL .set_4_A
  | 5 => o.pick .set_5_B .set_5_C .set_5_D .set_5_E .set_5_H .set_5_L .set_5_mHL .set_5_A
  | 6 => o.pick .set_6_B .set_6_C .set_6_D .set_6_E .set_6_H .set_6_L .set_6_mHL .set_6_A
  | 7 => o.pick .set_7_B .set_7_C .set_7_D .set_7_E .set_7_H .set_7_L .set_7_mHL .set_7_A

/-! ## Opcodes without an instruction -/

/-- The twelve removed opcodes' rows (R108, R366). -/
def removed : List Instr :=
  [.illegal_D3, .illegal_DB, .illegal_DD, .illegal_E3, .illegal_E4, .illegal_EB, .illegal_EC, .illegal_ED,
   .illegal_F2, .illegal_F4, .illegal_FC, .illegal_FD]

/-- The thirteen rows that raise UnsupportedOpcodeError (R506): the removed ones and 0x27. -/
def unsupportedRows : List Instr := .daa :: removed

/-! ## What the encoding says of an instruction -/

/-- The number of bytes (R100). The bare prefix is no instruction; its row belongs to the two-byte extended ones (R365). -/
def length (i : Instr) : Nat := (encode i).length

/-- The first byte (R106). -/
def opcode (i : Instr) : Byte := (encode i).headD 0

/-- The row of the decode tables (R106, R111). -/
def row (i : Instr) : OpRow :=
  match encode i with
  | [0xCB, sub] => .extended sub
  | _ => .primary i.opcode

end Instr

end Sys2Proof
end

