-- ==== Sys2Proof/Machine/Session.lean ====
section
/-! DEFINITION. What the host does outside a step: building a session, explicit reset, external shutdown
(70_reset_and_hazards.md R550 to R553, 60_exceptions.md R515; Log 10). -/

namespace Sys2Proof.Machine

/-- The cells of a byte sequence from address 0, in canonical form. -/
def cellsOf (bytes : List Byte) : Memory :=
  (bytes.zipIdx.filter (fun c => c.1 != unlistedByte)).map (fun c => (c.2, c.1))

/-- Load a cartridge image (R71): banks 0 and 1 are its first 0x8000 bytes, later bytes are ignored, a shorter image is
refused. -/
def Session.loadCartridge (cart : List Byte) (s : State) : Outcome :=
  if cart.length < 0x8000 then .refused (.cartridgeTooShort cart.length)
  else .next { s with mem := cellsOf (cart.take 0x8000) ++ s.mem.filter (fun c => decide (0x8000 ≤ c.1)) }

/-- Load the boot program `BOOT_ROM`, 256 bytes (R70, R550). -/
def Session.loadBootRom (rom : List Byte) (s : State) : State :=
  { s with bootRom := cellsOf (rom.take 0x100) }

/-- "Skipping" the boot overlay: the session starts with `pc = 0x0100` (R553). -/
def Session.skipBoot (s : State) : State := { s with pc := 0x0100 }

/-- Explicit reset (R552): registers, flags, `pc` and `sp` to zero, nothing else. -/
def Session.explicitReset (s : State) : State :=
  { s with regs := ⟨0, 0, 0, 0, 0, 0, 0⟩, flags := ⟨false, false, false, false⟩, pc := 0, sp := 0 }

/-- External shutdown (R515): it clears `running` and changes nothing else. -/
def Session.shutdown (s : State) : State := { s with running := false }

/-- What happens next in a session: the host acts at a step boundary, or the run loop takes a step (R10, R515, R552). -/
inductive SessionEvent where
  | step
  | shutdown
  | explicitReset
  deriving DecidableEq, Repr

/-- A session event. The host's choice of the event is the machine's only non-determinism (R10). When `running` is false no state
changes, whatever the event: the state is final (R516, D45; Log 21). -/
def Session.event (e : SessionEvent) (s : State) : Outcome :=
  if s.running then
    match e with
    | .step => step s
    | .shutdown => .next (Session.shutdown s)
    | .explicitReset => .next (Session.explicitReset s)
  else .next s

/-- Run a list of session events. -/
def Session.run : List SessionEvent → State → Outcome
  | [], s => .next s
  | e :: rest, s =>
    match Session.event e s with
    | .next t => Session.run rest t
    | .fault r => .fault r
    | .refused r => .refused r

end Sys2Proof.Machine
end

