-- ==== Sys2Proof/Safety.lean ====
section
/-! DEFINITION. What a safe run is, and the terms the obligations use: the invariant of the machine's data, a step without an
error, and what the run loop adds to an instruction's own effect. -/

namespace Sys2Proof

open Sys2Proof.Machine

/-- The shape of a framebuffer: 144 rows of 160 shades (50_ppu.md R421). -/
def Framed (f : Framebuffer) : Prop := f.length = 144 ∧ ∀ row ∈ f, row.length = 160

/-- The invariant every step keeps: both memories are in canonical form and hold only addresses of their own, the PPU's counter is
below the length of its mode (50_ppu.md R415), the framebuffer and every presented one have their shape (R421, R422), and the
history buffer and every logged snapshot of it hold at most `HISTORY_DEPTH` entries (60_exceptions.md R502). -/
structure StateInv (s : State) : Prop where
  mem_wf : s.mem.wf
  mem_addr : ∀ c ∈ s.mem, c.1 < 0x10000 ∧ ppuRegister c.1 = false
  boot_wf : s.bootRom.wf
  boot_addr : ∀ c ∈ s.bootRom, c.1 < 0x100
  counter_lt : s.ppu.counter < modeLength s.ppu.mode
  framed : Framed s.ppu.framebuffer
  presents_framed : ∀ f ∈ s.presents, Framed f
  history_le : s.history.length ≤ s.cfg.historyDepth
  log_le : ∀ r ∈ s.log, r.history.length ≤ s.cfg.historyDepth

/-- No error was recorded between two states of a run (60_exceptions.md R505, R511). -/
def NoError (s t : State) : Prop := t.log = s.log

/-- A run that records no error and stops on none: the sense of "safe" of this model (Log 7). -/
def SafeRun (es : List SessionEvent) (s : State) : Prop :=
  ∃ t, Session.run es s = .next t ∧ NoError s t

/-- The address of an instruction that is executed in `s`: `pc` has passed its bytes (10_state.md R25, Log 8). -/
def Instr.address (i : Instr) (s : State) : Word := s.pc - BitVec.ofNat 16 i.length

/-- `t` is what the run loop makes of `u`, the state an instruction's own effect leaves, when the instruction at address `a`
has completed with the charge `ch` (60_exceptions.md R500 steps 5 and 6): the cost goes to the clock and, scaled, to the PPU
(R503), a sample of 0xFF0F that raises is logged (R509, R513), and NOTHING ELSE changes. -/
structure Retires (i : Instr) (a : Word) (ch : Charge) (u t : State) : Prop where
  regs : t.regs = u.regs
  flags : t.flags = u.flags
  sp : t.sp = u.sp
  pc : t.pc = u.pc
  interruptsEnabled : t.interruptsEnabled = u.interruptsEnabled
  running : t.running = u.running
  bootOverlay : t.bootOverlay = u.bootOverlay
  bootRom : t.bootRom = u.bootRom
  mem : t.mem = u.mem
  history : t.history = u.history
  cfg : t.cfg = u.cfg
  clock : t.clock = u.clock + costOf u.cfg i.row ch
  ppu : t.ppu = (u.ppu.tick u.cfg.shade u.mem (u.cfg.tickScale * costOf u.cfg i.row ch)).1
  presents : t.presents = u.presents ++ (u.ppu.tick u.cfg.shade u.mem (u.cfg.tickScale * costOf u.cfg i.row ch)).2
  log : t.log = u.log ++
    if u.interruptsEnabled && u.unmappedAt 0xFF0F#16 then [⟨.memoryAccess, some i.opcode, a, u.history⟩] else []

/-- Executing `i` in `s` answers a next state: the instruction's own effect leaves `u`, and it completes with the charge `ch`.
Every field of the next state follows. -/
def Completes (i : Instr) (s : State) (ch : Charge) (u : State) : Prop :=
  ∃ t, exec i s = .next t ∧ Retires i (i.address s) ch u t

/-- Executing `i` in `s` answers a next state in which the error `e` has been taken: the instruction's effect had left `u` when
it raised (60_exceptions.md R505), and one record is appended to the log. -/
def Raises (i : Instr) (s : State) (e : ErrorKind) (u : State) : Prop :=
  exec i s = .next (takeError e (some i.opcode) (i.address s) u)

/-- The three bytes from `pc` on, as a fetch reads them once the overlay test has been made (60_exceptions.md R500 steps 1, 2). -/
def bytesAtPc (s : State) : List Byte :=
  [(leaveBoot s).peek s.pc, (leaveBoot s).peek (s.pc + 1), (leaveBoot s).peek (s.pc + 2)]

/-- The first `n` bytes from `pc` on can be fetched. -/
def FetchMapped (s : State) (n : Nat) : Prop := ∀ k < n, s.unmappedAt (s.pc + BitVec.ofNat 16 k) = false

/-- The state in which an instruction with the first byte `op` executes once its first `n` bytes are fetched: the overlay test
made, the history entry recorded, `pc` moved (60_exceptions.md R500 steps 1 to 3). -/
def fetched (s : State) (op : Byte) (n : Nat) : State :=
  ((leaveBoot s).record s.pc op).setPc (s.pc + BitVec.ofNat 16 n)

/-- Executing `i` stores to the given addresses at most: every other byte reads after it as before, however it ends. `LY`
(0xFF44) is apart: the PPU advances it after the instruction (50_ppu.md R407). -/
def StoresOnlyAt (i : Instr) (addresses : State → List Word) : Prop :=
  ∀ s t a, exec i s = .next t → a ≠ 0xFF44 → a ∉ addresses s → t.peek a = s.peek a

/-- Executing `i` changes the given registers at most, however it ends. -/
def WritesOnly (i : Instr) (registers : List Reg8) : Prop :=
  ∀ s t r, exec i s = .next t → r ∉ registers → t.reg r = s.reg r

/-! ## Operands as values -/

/-- The value of an 8-bit operand (R103). -/
def Machine.State.operand (s : State) : Operand8 → Byte
  | .reg r => s.reg r
  | .mHL => s.peek (s.pair .HL)

/-- The access of an 8-bit operand raises: its address is unmapped. -/
def Machine.State.operandUnmapped (s : State) : Operand8 → Bool
  | .reg _ => false
  | .mHL => s.unmappedAt (s.pair .HL)

/-- The state after a write of an 8-bit operand (R103). -/
def Machine.State.putOperand (s : State) (o : Operand8) (v : Byte) : State :=
  match o with
  | .reg r => s.setReg r v
  | .mHL => s.poke (s.pair .HL) v

/-- The value of an accumulator instruction's source. -/
def Machine.State.source (s : State) : Source → Byte
  | .op o => s.operand o
  | .imm n => n

/-- The access of an accumulator instruction's source raises. -/
def Machine.State.sourceUnmapped (s : State) : Source → Bool
  | .op o => s.operandUnmapped o
  | .imm _ => false

end Sys2Proof
end

