-- ==== Sys2Proof/WellFormed.lean ====
section
/-! DEFINITION. Which terms of `Instr` are instructions. The operands are bit vectors of the width R100 gives them, so
every operand value is legal; the one term that is no instruction is the bare prefix 0xCB (47_system.md R365: "not an
instruction but the first byte of every extended instruction"). -/

namespace Sys2Proof

/-- Is the term the row `PREFIX CB`? -/
def Instr.isPrefix : Instr → Bool
  | .prefix_CB => true
  | _ => false

/-- The term is an instruction (R365). -/
def Instr.wellFormed (i : Instr) : Bool := !i.isPrefix

end Sys2Proof
end

