-- ==== Sys2Proof/Certificates/Slice0/Obligations.lean ====
section
/-! DEFINITION. The statements for the provers. Each docstring names the passage of spec/ it formalises. `Completes i s ch u` and
`Raises i s e u` (Safety.lean) both say that `exec i s` ANSWERS A NEXT STATE and fix every field of it: `u` is what the
instruction's own effect leaves, `ch` its charge. In `exec i s` the program counter has passed the instruction's bytes (Log 8).
Ticks, costs and the interrupt sample are the run loop's part and are in `Retires`. -/

open Sys2Proof Sys2Proof.Machine

/-! ## Encoding and decoding -/

/-- Decoding an encoded instruction gives it back, with every operand value, and leaves the bytes after it. Rests on the opcode
map of 30_encoding.md R106, R107, R114, which the spec takes from general knowledge (Log 18). -/
def Obligations.DecodeOfEncodeIsTheInstruction : Prop :=
  ∀ (i : Instr) (rest : List Byte), i.wellFormed = true → decode (encode i ++ rest) = .ok (i, rest)

/-- Decoding drops no bit: the bytes the decoder consumed are the encoding of what it answers, which is an instruction (R115). -/
def Obligations.EncodeOfDecodeIsTheBytes : Prop :=
  ∀ (bytes rest : List Byte) (i : Instr), decode bytes = .ok (i, rest) →
    bytes = encode i ++ rest ∧ i.wellFormed = true

/-- 30_encoding.md R115: the opcode byte alone decides how many bytes follow (0, 1 or 2), exactly one after 0xCB whatever its value,
none after a removed or unknown opcode; every byte value has a row, so decoding fails only where bytes are missing. That 0x27 is the unknown
opcode is decision D3 (R109, Log 17). -/
def Obligations.OpcodeDecidesTheLength : Prop :=
  ∃ extra : Byte → Nat, (∀ op, extra op ≤ 2) ∧ extra 0xCB = 1 ∧ (∀ i ∈ Instr.unsupportedRows, extra i.opcode = 0) ∧
    ∀ (op : Byte) (rest : List Byte),
      (extra op ≤ rest.length →
        ∃ i, decode (op :: rest) = .ok (i, rest.drop (extra op)) ∧ i.length = 1 + extra op) ∧
      (rest.length < extra op → decode (op :: rest) = .error (.truncated op))

/-- A few instructions' bytes, written out from the encodings of the spec's rules: `3E 05`, `3C` (R201, R258), `D3` (R366), `76`
(R362), `C3 00 01` (R301), `20 FC` (R305), `CB 7E` (R339), `CB 86` (R340), `F5` (R234), `E0 42` (R212), `36 81` (R204). -/
def Obligations.SpecEncodingsDecode : Prop :=
  decode [0x3E, 0x05] = .ok (.ld_A_n 0x05, []) ∧ decode [0x3C] = .ok (.inc_A, []) ∧
  decode [0xD3] = .ok (.illegal_D3, []) ∧ decode [0x76] = .ok (.halt, []) ∧
  decode [0xC3, 0x00, 0x01] = .ok (.jp_nn 0x0100, []) ∧ decode [0x20, 0xFC] = .ok (.jr_NZ_e 0xFC, []) ∧
  decode [0xCB, 0x7E] = .ok (.bit_7_mHL, []) ∧ decode [0xCB, 0x86] = .ok (.res_0_mHL, []) ∧
  decode [0xF5] = .ok (.push_AF, []) ∧ decode [0xE0, 0x42] = .ok (.ldh_mN_A 0x42, []) ∧
  decode [0x36, 0x81] = .ok (.ld_mHL_n 0x81, [])

/-- The places of the operand codes of 30_encoding.md R103 to R105 and R112 to R114 in the bytes, as the instruction rules give
them (`01 rrr r'r'r'`, `00 pp0 001`, ...). Codes and places are from general knowledge (Log 18). -/
def Obligations.OperandFieldsOfTheEncodings : Prop :=
  (∀ d r : Reg8, encode (.ldRegReg d r) = [BitVec.ofNat 8 (0x40 + 8 * d.code + r.code)]) ∧
  (∀ (d : Reg8) (n : Byte), encode (.ldRegImm d n) = [BitVec.ofNat 8 (0x06 + 8 * d.code), n]) ∧
  (∀ d : Reg8, encode (.ldRegMem d) = [BitVec.ofNat 8 (0x46 + 8 * d.code)]) ∧
  (∀ r : Reg8, encode (.ldMemReg r) = [BitVec.ofNat 8 (0x70 + r.code)]) ∧
  (∀ (op : AccOp) (o : Operand8), encode (.acc op (.op o)) = [BitVec.ofNat 8 (0x80 + 8 * op.code + o.code)]) ∧
  (∀ (op : AccOp) (n : Byte), encode (.acc op (.imm n)) = [BitVec.ofNat 8 (0xC6 + 8 * op.code), n]) ∧
  (∀ o : Operand8, encode (.incOp o) = [BitVec.ofNat 8 (0x04 + 8 * o.code)] ∧
    encode (.decOp o) = [BitVec.ofNat 8 (0x05 + 8 * o.code)]) ∧
  (∀ (p : Reg16) (nn : Word),
    encode (.ldReg16Imm p nn) = [BitVec.ofNat 8 (0x01 + 16 * p.code), nn.setWidth 8, (nn >>> 8).setWidth 8]) ∧
  (∀ p : Reg16, encode (.incReg16 p) = [BitVec.ofNat 8 (0x03 + 16 * p.code)] ∧
    encode (.decReg16 p) = [BitVec.ofNat 8 (0x0B + 16 * p.code)] ∧
    encode (.addHL p) = [BitVec.ofNat 8 (0x09 + 16 * p.code)]) ∧
  (∀ p : StackReg, encode (.pushReg p) = [BitVec.ofNat 8 (0xC5 + 16 * p.code)] ∧
    encode (.popReg p) = [BitVec.ofNat 8 (0xC1 + 16 * p.code)]) ∧
  (∀ (cc : Cond) (nn : Word),
    encode (.jpIf cc nn) = [BitVec.ofNat 8 (0xC2 + 8 * cc.code), nn.setWidth 8, (nn >>> 8).setWidth 8] ∧
    encode (.callIf cc nn) = [BitVec.ofNat 8 (0xC4 + 8 * cc.code), nn.setWidth 8, (nn >>> 8).setWidth 8]) ∧
  (∀ (cc : Cond) (e : Byte), encode (.jrIf cc e) = [BitVec.ofNat 8 (0x20 + 8 * cc.code), e] ∧
    encode (.retIf cc) = [BitVec.ofNat 8 (0xC0 + 8 * cc.code)]) ∧
  (∀ y : Fin 8, encode (.rst y) = [BitVec.ofNat 8 (0xC7 + 8 * y.val)]) ∧
  (∀ (op : RotOp) (o : Operand8), encode (.rot op o) = [0xCB, BitVec.ofNat 8 (8 * op.code + o.code)]) ∧
  (∀ (b : Fin 8) (o : Operand8), encode (.bit b o) = [0xCB, BitVec.ofNat 8 (0x40 + 8 * b.val + o.code)] ∧
    encode (.res b o) = [0xCB, BitVec.ofNat 8 (0x80 + 8 * b.val + o.code)] ∧
    encode (.set b o) = [0xCB, BitVec.ofNat 8 (0xC0 + 8 * b.val + o.code)])

/-! ## A step -/

/-- 60_exceptions.md R500: when the bytes at `pc` decode to an instruction and can be fetched, a step executes it, after the overlay
test, with the history entry made and `pc` past its bytes. -/
def Obligations.StepExecutesTheDecodedInstruction : Prop :=
  ∀ (s : State) (i : Instr) (rest : List Byte), s.running = true → decode (bytesAtPc s) = .ok (i, rest) →
    FetchMapped s i.length → step s = exec i (fetched s i.opcode i.length)

/-- 60_exceptions.md R516 and 10_state.md R30: when `running` is false a step changes nothing (that such a step answers the same state
is the model's choice, Log 6); of all instructions `STOP` alone clears it, and nothing sets it. -/
def Obligations.OnlyStopEndsTheRun : Prop :=
  (∀ s, s.running = false → step s = .next s) ∧
  (∀ i s t, exec i s = .next t → t.running = if i = .stop then false else s.running) ∧
  (∀ s t, step s = .next t → t.running = true → s.running = true)

/-- 60_exceptions.md R501: every step that starts with `pc = 0x0100` removes the boot overlay before anything else, even if its
instruction then fails, and no step restores it. -/
def Obligations.OverlayLeavesAtPc0100 : Prop :=
  (∀ s, s.running = true → ∃ t, step s = .next t ∧ t.bootOverlay = (s.bootOverlay && decide (s.pc ≠ 0x0100))) ∧
  (∀ s, s.running = true → s.pc = 0x0100 → step s = step { s with bootOverlay := false }) ∧
  (∀ i s t, exec i s = .next t → t.bootOverlay = s.bootOverlay)

/-- 60_exceptions.md R502: a step whose opcode byte can be fetched makes one history entry, that byte with its address (0xCB for an
extended instruction, D38), even if it then fails; only the oldest entries are dropped, and only beyond `HISTORY_DEPTH`. -/
def Obligations.StepRecordsTheOpcode : Prop :=
  ∀ s, s.running = true → s.unmappedAt s.pc = false →
    ∃ t old, step s = .next t ∧ old ++ t.history = s.history ++ [⟨s.pc, (leaveBoot s).peek s.pc⟩] ∧
      t.history.length = min s.cfg.historyDepth (s.history.length + 1)

/-- 60_exceptions.md R505, R509 (1) and (3), 30_encoding.md R116: a failing opcode fetch logs a record without an opcode, makes no history
entry and moves nothing; when the byte `k ≥ 1` of an instruction cannot be fetched, `pc` stands at that byte, the opcode is recorded and
logged, and nothing else happens. -/
def Obligations.FailedFetchStopsThere : Prop :=
  (∀ s, s.running = true → s.unmappedAt s.pc = true →
    step s = .next { leaveBoot s with log := s.log ++ [⟨.memoryAccess, none, s.pc, s.history⟩] }) ∧
  (∀ (s : State) (i : Instr) (rest : List Byte) (k : Nat), s.running = true →
    decode (bytesAtPc s) = .ok (i, rest) → 1 ≤ k → k < i.length → FetchMapped s k →
    s.unmappedAt (s.pc + BitVec.ofNat 16 k) = true →
    step s = .next (takeError .memoryAccess (some i.opcode) s.pc (fetched s i.opcode k)))

/-- 60_exceptions.md R505, 00_scope.md R11: there is always a next state; an error is one, with a log record. -/
def Obligations.ExecutionAlwaysAnswersNext : Prop :=
  (∀ i s, ∃ t, exec i s = .next t) ∧ (∀ s, ∃ t, step s = .next t)

/-- Every step, and every act of the host between steps, keeps the invariant `StateInv`: canonical memories, the PPU counter below its
mode's length (50_ppu.md R415), frames of 144 × 160 (R421), a bounded history (60_exceptions.md R502). -/
def Obligations.StepKeepsInv : Prop :=
  (∀ s t, StateInv s → step s = .next t → StateInv t) ∧
  (∀ s t e, StateInv s → Session.event e s = .next t → StateInv t) ∧
  (∀ s rom, StateInv s → StateInv (Session.loadBootRom rom s)) ∧
  (∀ s t cart, StateInv s → Session.loadCartridge cart s = .next t → StateInv t)

/-- The invariant holds after construction (10_state.md R39). -/
def Obligations.ResetHasInv : Prop := StateInv State.reset

/-- 20_memory.md R71, R72, 00_scope.md R6: no step changes a byte of cartridge ROM or of the boot program, or a parameter. -/
def Obligations.RomAndParametersNeverChange : Prop :=
  ∀ s t, step s = .next t →
    t.cfg = s.cfg ∧ t.bootRom = s.bootRom ∧ ∀ a, a < 0x8000 → t.mem.read a = s.mem.read a

/-- 10_state.md R29, 60_exceptions.md R513: `EI` and a completed `RETI` set `interruptsEnabled`, `DI` clears it, no other instruction
writes it (at once, D32, Log 17). Nothing but the sample of 0xFF0F reads it, and nothing reads the log: two steps from states that differ in
the two alone differ in the two alone, and append the same records, except that where 0xFF0F is unmapped the step that ends with interrupts
enabled may append the one record of the failing sample. -/
def Obligations.InterruptEnableOnlyGatesTheSample : Prop :=
  (∀ i s t, exec i s = .next t → t.interruptsEnabled =
    if i = .ei then true else if i = .di then false
    else if i = .reti ∧ s.unmappedAt s.sp = false ∧ s.unmappedAt (s.sp + 1) = false then true
    else s.interruptsEnabled) ∧
  (∀ s t t' on l, step s = .next t → step { s with interruptsEnabled := on, log := l } = .next t' →
    { t' with interruptsEnabled := t.interruptsEnabled, log := t.log } = t ∧
    ∃ new new', t.log = s.log ++ new ∧ t'.log = l ++ new' ∧
      let sample : LogRecord := ⟨.memoryAccess, some ((leaveBoot s).peek s.pc), s.pc, t.history⟩
      (new' = new ∨ s.unmappedAt 0xFF0F = true ∧
        (t.interruptsEnabled = false ∧ new = [] ∧ t'.interruptsEnabled = true ∧ new' = [sample] ∨
          t.interruptsEnabled = true ∧ new = [sample] ∧ t'.interruptsEnabled = false ∧ new' = [])))

/-- 60_exceptions.md R507: with no address unmapped, the only error a step can record is UnsupportedOpcodeError, and it records it
exactly when the opcode byte is one of the thirteen of R506. -/
def Obligations.OnlyUnsupportedOpcodesFailByDefault : Prop :=
  ∀ s t, s.cfg.unmapped = [] → s.running = true → step s = .next t →
    t.log = s.log ++
      if (leaveBoot s).peek s.pc ∈ Instr.unsupportedRows.map Instr.opcode then
        [⟨.unsupportedOpcode, some ((leaveBoot s).peek s.pc), s.pc, t.history⟩]
      else []

/-- 47_system.md R366 and, for 0x27, 43_arith8.md R269, which is decision D3: a removed opcode, and 0x27, leave everything but `pc`, the
history and the log as it was; the record holds the opcode, its address and the history with its own entry. That a failed instruction
reports no cost, ticks nothing and samples nothing is decision D30. Both decisions are in Log 17. -/
def Obligations.UnsupportedOpcodeIsLoggedAndSkipped : Prop :=
  Instr.unsupportedRows.map Instr.opcode =
    [0x27, 0xD3, 0xDB, 0xDD, 0xE3, 0xE4, 0xEB, 0xEC, 0xED, 0xF2, 0xF4, 0xFC, 0xFD] ∧
  ∀ i ∈ Instr.unsupportedRows, i.length = 1 ∧
    (∀ s, Raises i s .unsupportedOpcode s) ∧
    (∀ s, s.running = true → s.unmappedAt s.pc = false → (leaveBoot s).peek s.pc = i.opcode →
      ∃ h, h = ((leaveBoot s).record s.pc i.opcode).history ∧
        step s = .next { leaveBoot s with
          pc := s.pc + 1
          history := h
          log := s.log ++ [⟨.unsupportedOpcode, some i.opcode, s.pc, h⟩] })

/-! ## The ALU -/

/-- 40_alu.md R131, R133, R134: `incByte`, `incWord`, `decWord` wrap; Zero from the result, half-carry across bit 3 (11), `fC` kept. -/
def Obligations.IncrementPrimitives : Prop :=
  (∀ f v, Alu.incByte f v = (v + 1, ⟨v == 0xFF, false, v.toNat % 16 == 15, f.fC⟩)) ∧
  (∀ f v, Alu.incWord f v = (v + 1, ⟨v == 0xFFFF, false, v.toNat % 4096 == 4095, f.fC⟩)) ∧
  (∀ f v, Alu.decWord f v = (v - 1, ⟨v == 1, true, v.toNat % 4096 == 0, f.fC⟩))

/-- 40_alu.md R132, R135 to R140: results wrap; carry out of bit 7 (15); the half-carry of an addition is bit 4 (12) of the sum of the
low parts, the half-borrow of a subtraction is bit 4 of the two's-complement difference of the low nibbles (R139); the Zero flags
are decisions D5 and D7. -/
def Obligations.AddAndSubtractPrimitives : Prop :=
  (∀ f v, Alu.decByte f v = (v - 1, ⟨v == 1, true, v.toNat % 16 == 0, f.fC⟩)) ∧
  (∀ f a b, Alu.addByte f a b =
    (a + b, ⟨a + b == 0, false, decide (16 ≤ a.toNat % 16 + b.toNat % 16), decide (256 ≤ a.toNat + b.toNat)⟩)) ∧
  (∀ f a b, Alu.addByteWithCarry f a b =
    (a + b + BitVec.ofNat 8 f.fC.toNat,
      ⟨a + b + BitVec.ofNat 8 f.fC.toNat == 0, false, decide (16 ≤ a.toNat % 16 + b.toNat % 16 + f.fC.toNat),
        decide (256 ≤ a.toNat + b.toNat + f.fC.toNat)⟩)) ∧
  (∀ f a b, Alu.subByte f a b =
    (a - b, ⟨a == b, true, (BitVec.ofInt 8 ((a.toNat % 16 : Nat) - (b.toNat % 16 : Nat))).getLsbD 4,
      decide (a.toNat < b.toNat)⟩)) ∧
  (∀ f a b, Alu.subByteWithCarry f a b =
    (a - b - BitVec.ofNat 8 f.fC.toNat,
      ⟨a - b - BitVec.ofNat 8 f.fC.toNat == 0, true,
        (BitVec.ofInt 8 ((a.toNat % 16 : Nat) - (b.toNat % 16 : Nat) - (f.fC.toNat : Nat))).getLsbD 4,
        decide (a.toNat < b.toNat + f.fC.toNat)⟩)) ∧
  (∀ f a b, Alu.addWords f a b =
    (a + b, ⟨f.fZ, false, decide (4096 ≤ a.toNat % 4096 + b.toNat % 4096), decide (65536 ≤ a.toNat + b.toNat)⟩))

/-- 40_alu.md R141 to R144: bitwise results; `and` sets HalfCarry alone of the other flags, `or` and `xor` none; `compare` has the flags
of `subByte`. Zero is decision D5. -/
def Obligations.LogicAndComparePrimitives : Prop :=
  (∀ f a b, (∀ k, (Alu.and f a b).1.getLsbD k = (a.getLsbD k && b.getLsbD k)) ∧
    (Alu.and f a b).2 = ⟨(Alu.and f a b).1 == 0, false, true, false⟩) ∧
  (∀ f a b, (∀ k, (Alu.or f a b).1.getLsbD k = (a.getLsbD k || b.getLsbD k)) ∧
    (Alu.or f a b).2 = ⟨(Alu.or f a b).1 == 0, false, false, false⟩) ∧
  (∀ f a b, (∀ k, (Alu.xor f a b).1.getLsbD k = (a.getLsbD k != b.getLsbD k)) ∧
    (Alu.xor f a b).2 = ⟨(Alu.xor f a b).1 == 0, false, false, false⟩) ∧
  (∀ f a b, Alu.compare f a b =
    ⟨a == b, true, decide (a.toNat % 16 < b.toNat % 16), decide (a.toNat < b.toNat)⟩)

/-- 40_alu.md R145, R146: the bit shifted out is the new Carry and wraps into the vacated bit; Subtract and HalfCarry cleared; each undoes
the other. -/
def Obligations.RotateWithCarryPrimitives : Prop :=
  (∀ f v, (∀ k, k < 8 → (Alu.rotateLeftCarry f v).1.getLsbD k = v.getLsbD ((k + 7) % 8)) ∧
    (Alu.rotateLeftCarry f v).2 = ⟨v == 0, false, false, v.getLsbD 7⟩) ∧
  (∀ f v, (∀ k, k < 8 → (Alu.rotateRightCarry f v).1.getLsbD k = v.getLsbD ((k + 1) % 8)) ∧
    (Alu.rotateRightCarry f v).2 = ⟨v == 0, false, false, v.getLsbD 0⟩) ∧
  (∀ f g v, (Alu.rotateRightCarry g (Alu.rotateLeftCarry f v).1).1 = v)

/-- 40_alu.md R147 to R152: every bit of the result and the bit that leaves; the old Carry enters in the rotates through Carry. Zero,
Subtract and HalfCarry of R147, R148, R150, R151 are decision D6. -/
def Obligations.ShiftPrimitives : Prop :=
  (∀ f v, (∀ k, k < 8 → (Alu.rotateLeft f v).1.getLsbD k = if k = 0 then f.fC else v.getLsbD (k - 1)) ∧
    (Alu.rotateLeft f v).2 = ⟨(Alu.rotateLeft f v).1 == 0, false, false, v.getLsbD 7⟩) ∧
  (∀ f v, (∀ k, k < 8 → (Alu.rotateRight f v).1.getLsbD k = if k = 7 then f.fC else v.getLsbD (k + 1)) ∧
    (Alu.rotateRight f v).2 = ⟨(Alu.rotateRight f v).1 == 0, false, false, v.getLsbD 0⟩) ∧
  (∀ f v, (∀ k, k < 8 → (Alu.shiftLeftSigned f v).1.getLsbD k = if k = 0 then false else v.getLsbD (k - 1)) ∧
    (Alu.shiftLeftSigned f v).2 = ⟨(Alu.shiftLeftSigned f v).1 == 0, false, false, v.getLsbD 7⟩) ∧
  (∀ f v, (∀ k, k < 8 → (Alu.shiftRightSigned f v).1.getLsbD k = v.getLsbD (if k = 7 then 7 else k + 1)) ∧
    (Alu.shiftRightSigned f v).2 = ⟨(Alu.shiftRightSigned f v).1 == 0, false, false, v.getLsbD 0⟩) ∧
  (∀ f v, (∀ k, k < 8 → (Alu.shiftRight f v).1.getLsbD k = if k = 7 then false else v.getLsbD (k + 1)) ∧
    (Alu.shiftRight f v).2 = ⟨(Alu.shiftRight f v).1 == 0, false, false, v.getLsbD 0⟩) ∧
  (∀ f v, (∀ k, k < 8 → (Alu.swap f v).1.getLsbD k = v.getLsbD ((k + 4) % 8)) ∧
    (Alu.swap f v).2 = ⟨v == 0, false, false, false⟩)

/-- 40_alu.md R153 to R158: `complement` inverts every bit and sets Subtract and HalfCarry alone; `bitTest` sets Zero from the tested bit;
`setBit` and `resetBit` change one bit and no flag; `setCarry` and `clearCarry` write Carry alone. -/
def Obligations.BitAndCarryPrimitives : Prop :=
  (∀ f v, (∀ k, k < 8 → (Alu.complement f v).1.getLsbD k = !v.getLsbD k) ∧
    (Alu.complement f v).2 = ⟨f.fZ, true, true, f.fC⟩) ∧
  (∀ f (b : Fin 8) v, Alu.bitTest f b v = ⟨!v.getLsbD b, false, true, f.fC⟩) ∧
  (∀ (b : Fin 8) v k, (Alu.setBit b v).getLsbD k = (v.getLsbD k || decide (k = b.val))) ∧
  (∀ (b : Fin 8) v k, (Alu.resetBit b v).getLsbD k = (v.getLsbD k && decide (k ≠ b.val))) ∧
  (∀ f, Alu.setCarry f = ⟨f.fZ, f.fN, f.fH, true⟩) ∧
  (∀ f, Alu.clearCarry f = ⟨f.fZ, f.fN, f.fH, false⟩)

/-- The laws listed in 40_alu.md R159, which the spec derives from R131 to R158. -/
def Obligations.AluLaws : Prop :=
  (∀ f g v, (Alu.decByte g (Alu.incByte f v).1).1 = v ∧ (Alu.incByte g (Alu.decByte f v).1).1 = v) ∧
  (∀ f g a b, (Alu.subByte g (Alu.addByte f a b).1 b).1 = a) ∧
  (∀ f a b, (Alu.addByte f a b).2.fC = decide (256 ≤ a.toNat + b.toNat) ∧
    (Alu.subByte f a b).2.fC = decide (a.toNat < b.toNat)) ∧
  (∀ f g v, (Alu.swap g (Alu.swap f v).1).1 = v ∧ (Alu.complement g (Alu.complement f v).1).1 = v ∧
    (Alu.xor f v v).1 = 0) ∧
  (∀ f g x, (Alu.decWord g (Alu.incWord f x).1).1 = x) ∧
  (∀ f x, (Alu.addWords f x 0).1 = x ∧ (Alu.addWords f x 0).2.fH = false ∧ (Alu.addWords f x 0).2.fC = false) ∧
  (∀ f a b, f.fC = false → Alu.addByteWithCarry f a b = Alu.addByte f a b ∧
    Alu.subByteWithCarry f a b = Alu.subByte f a b) ∧
  (∀ f v, (Alu.shiftLeftSigned f v).1 = (Alu.addByte f v v).1)

/-! ## Register and flag views, memory -/

/-- 10_state.md R21: there are three pairs, each its two registers, high byte first; writing one writes both halves and no other register,
a write of either half is seen by the next read, and `HL` is the pointer of `(HL)`. -/
def Obligations.PairsAreViewsOfTheRegisters : Prop :=
  (∀ s : State, s.pair .BC = s.reg .B ++ s.reg .C ∧ s.pair .DE = s.reg .D ++ s.reg .E ∧ s.pair .HL = s.reg .H ++ s.reg .L) ∧
  (∀ p : Pair, p = .BC ∨ p = .DE ∨ p = .HL) ∧ (∀ s : State, s.operand .mHL = s.peek (s.pair .HL)) ∧
  (∀ (s : State) p, (s.pair p).toNat = 256 * (s.reg (pairHi p)).toNat + (s.reg (pairLo p)).toNat) ∧
  (∀ (s : State) p v, (s.setPair p v).pair p = v ∧
    (s.setPair p v).reg (pairHi p) = BitVec.ofNat 8 (v.toNat / 256) ∧
    (s.setPair p v).reg (pairLo p) = BitVec.ofNat 8 (v.toNat % 256)) ∧
  (∀ (s : State) p v r, r ≠ pairHi p → r ≠ pairLo p → (s.setPair p v).reg r = s.reg r) ∧
  (∀ (s : State) p b, ((s.setReg (pairHi p) b).pair p).toNat = 256 * b.toNat + (s.reg (pairLo p)).toNat ∧
    ((s.setReg (pairLo p) b).pair p).toNat = 256 * (s.reg (pairHi p)).toNat + b.toNat)

/-- 10_state.md R27: the packed flags byte, its low nibble zero, and the two identities of pack and unpack. -/
def Obligations.FlagsPackAndUnpack : Prop :=
  (∀ f : Flags, f.pack.getLsbD 7 = f.fZ ∧ f.pack.getLsbD 6 = f.fN ∧ f.pack.getLsbD 5 = f.fH ∧ f.pack.getLsbD 4 = f.fC ∧
    ∀ k, k < 4 → f.pack.getLsbD k = false) ∧
  (∀ f : Flags, Flags.unpack f.pack = f) ∧
  (∀ b : Byte, (Flags.unpack b).pack = b &&& 0xF0)

/-- 20_memory.md R61, R69 to R74, R77, 10_state.md R31 and 50_ppu.md R402 to R405, R407, R408: what each address reads as: the boot program
under the overlay, the five PPU registers (LCDC and BGP packed), memory everywhere else; a store from 0x8000 up is what the next read of its
address gives, in memory and in a PPU register alike; a store below changes nothing; no store changes another address. Rests on decisions
D15 to D17 and, for the packing of BGP, D28 (Logs 5, 17, 18); the premise on LCDC's positions is Log 14. -/
def Obligations.RegionsAndReadAfterWrite : Prop :=
  (∀ (s : State) a, s.bootOverlay = true → a.toNat < 0x100 → s.peek a = s.bootRom.read a.toNat) ∧
  (∀ (s : State) a, (s.bootOverlay = false ∨ 0x100 ≤ a.toNat) → a ∉ [0xFF40, 0xFF42, 0xFF43, 0xFF44, 0xFF47] →
    s.peek a = s.mem.read a.toNat) ∧
  (∀ s : State, s.peek 0xFF42 = s.ppu.scrollY ∧ s.peek 0xFF43 = s.ppu.scrollX ∧ s.peek 0xFF44 = s.ppu.line) ∧
  (∀ s : State, s.cfg.wf →
    let lcdc := s.peek 0xFF40
    let bits := s.cfg.lcdcBits
    lcdc.getLsbD bits.displayOn = s.ppu.lcdc.displayOn ∧ lcdc.getLsbD bits.windowMapSelect = s.ppu.lcdc.windowMapSelect ∧
    lcdc.getLsbD bits.windowOn = s.ppu.lcdc.windowOn ∧ lcdc.getLsbD bits.tileDataSelect = s.ppu.lcdc.tileDataSelect ∧
    lcdc.getLsbD bits.tileMapSelect = s.ppu.lcdc.tileMapSelect ∧ lcdc.getLsbD bits.spriteSize = s.ppu.lcdc.spriteSize ∧
    lcdc.getLsbD bits.spritesOn = s.ppu.lcdc.spritesOn ∧ lcdc.getLsbD bits.backgroundOn = s.ppu.lcdc.backgroundOn) ∧
  (∀ s : State, s.peek 0xFF47 = s.ppu.palette.p3 ++ s.ppu.palette.p2 ++ s.ppu.palette.p1 ++ s.ppu.palette.p0) ∧
  (∀ (s : State) a v, s.mem.wf → s.cfg.wf → 0x8000 ≤ a.toNat → (s.poke a v).peek a = v) ∧
  (∀ (s : State) a v, a.toNat < 0x8000 → s.poke a v = s) ∧
  (∀ (s : State) a b v, b ≠ a → (s.poke a v).peek b = s.peek b)

/-- 50_ppu.md R402 to R405, R407, R408: where the bits of a byte stored to a PPU register go: each LCDC field from its position of
`LCDC_BITS`, whose default is bit 7 display-on down to bit 0 background-on; the whole byte for the scroll registers and `LY`; bits 2i+1 and 2i
to entry i of the palette. Nothing else changes. The default positions are D24 and the palette's packing D28, both general knowledge
(Logs 5, 17, 18). -/
def Obligations.PpuRegisterStoresUnpack : Prop :=
  (∀ (s : State) v,
    let bits := s.cfg.lcdcBits
    s.poke 0xFF40 v = { s with ppu := { s.ppu with lcdc :=
      { displayOn := v.getLsbD bits.displayOn, windowMapSelect := v.getLsbD bits.windowMapSelect
        windowOn := v.getLsbD bits.windowOn, tileDataSelect := v.getLsbD bits.tileDataSelect
        tileMapSelect := v.getLsbD bits.tileMapSelect, spriteSize := v.getLsbD bits.spriteSize
        spritesOn := v.getLsbD bits.spritesOn, backgroundOn := v.getLsbD bits.backgroundOn } } }) ∧
  Params.default.lcdcBits =
    { displayOn := 7, windowMapSelect := 6, windowOn := 5, tileDataSelect := 4
      tileMapSelect := 3, spriteSize := 2, spritesOn := 1, backgroundOn := 0 } ∧
  (∀ (s : State) v, s.poke 0xFF42 v = { s with ppu := { s.ppu with scrollY := v } } ∧
    s.poke 0xFF43 v = { s with ppu := { s.ppu with scrollX := v } } ∧
    s.poke 0xFF44 v = { s with ppu := { s.ppu with line := v } }) ∧
  (∀ (s : State) v, s.poke 0xFF47 v = { s with ppu := { s.ppu with palette :=
    { p0 := BitVec.ofNat 2 (v.toNat % 4), p1 := BitVec.ofNat 2 (v.toNat / 4 % 4)
      p2 := BitVec.ofNat 2 (v.toNat / 16 % 4), p3 := BitVec.ofNat 2 (v.toNat / 64) } } })

/-- The model's own data: two canonical memories that read alike are equal, and a write keeps the form (Logs 1, 2, 20). -/
def Obligations.EqualReadsMeanEqualMemories : Prop :=
  (∀ m n : Memory, m.wf → n.wf → (∀ a, m.read a = n.read a) → m = n) ∧
  (∀ (m : Memory) a v, m.wf → (m.write a v).wf)

/-- 20_memory.md R64 to R66: a word is two bytes, the low one at the lower address, and the second address wraps (D18, Log 17): the read and
the write at every mapped pair of addresses; the word written reads back, in memory and in PPU registers alike; at 0xFFFF the low byte is
stored there, the high one is dropped at 0x0000 (R72, D16), and a read takes its high byte from 0x0000. -/
def Obligations.WordAccessIsLittleEndian : Prop :=
  (∀ (s : State) a, s.unmappedAt a = false → s.unmappedAt (a + 1) = false →
    readWord a s = .ok (s.peek (a + 1) ++ s.peek a) s) ∧
  (∀ (s : State) a v, s.unmappedAt a = false → s.unmappedAt (a + 1) = false →
    writeWord a v s =
      .ok () ((s.poke a (BitVec.ofNat 8 (v.toNat % 256))).poke (a + 1) (BitVec.ofNat 8 (v.toNat / 256)))) ∧
  (∀ (s : State) a v, s.mem.wf → s.unmappedAt a = false → s.unmappedAt (a + 1) = false → 0x8000 ≤ a.toNat → a ≠ 0xFFFF →
    ((ppuRegister a.toNat = false ∧ ppuRegister (a + 1).toNat = false) ∨ s.cfg.wf) →
    ∃ t, writeWord a v s = .ok () t ∧ readWord a t = .ok v t ∧
      t.peek a = BitVec.ofNat 8 (v.toNat % 256) ∧ t.peek (a + 1) = BitVec.ofNat 8 (v.toNat / 256)) ∧
  (∀ (s : State) v, s.mem.wf → s.unmappedAt 0xFFFF = false → s.unmappedAt 0x0000 = false →
    readWord 0xFFFF s = .ok (s.peek 0x0000 ++ s.peek 0xFFFF) s ∧
    ∃ t, writeWord 0xFFFF v s = .ok () t ∧ t = s.poke 0xFFFF (BitVec.ofNat 8 (v.toNat % 256)) ∧
      t.peek 0xFFFF = BitVec.ofNat 8 (v.toNat % 256) ∧ t.peek 0x0000 = s.peek 0x0000)

/-! ## What each instruction does -/

/-- 41_load8.md R200 to R202, R205, R206, R209, R211, R215, R217: the 8-bit loads. `LD H,(HL)` and `LD L,(HL)` read with the old `HL`; the
forms with `(HL+)` and `(HL-)` move `HL` by a plain wrap, without flags (D11). -/
def Obligations.LoadByte : Prop :=
  (∀ d r s, Completes (.ldRegReg d r) s ⟨true, 1⟩ (s.setReg d (s.reg r))) ∧
  (∀ d n s, Completes (.ldRegImm d n) s ⟨true, 2⟩ (s.setReg d n)) ∧
  (∀ d s, s.unmappedAt (s.pair .HL) = false →
    Completes (.ldRegMem d) s ⟨true, 2⟩ (s.setReg d (s.peek (s.pair .HL)))) ∧
  (∀ s, s.unmappedAt (s.pair .BC) = false → Completes .ld_A_mBC s ⟨true, 2⟩ (s.setReg .A (s.peek (s.pair .BC)))) ∧
  (∀ s, s.unmappedAt (s.pair .DE) = false → Completes .ld_A_mDE s ⟨true, 2⟩ (s.setReg .A (s.peek (s.pair .DE)))) ∧
  (∀ nn s, s.unmappedAt nn = false → Completes (.ld_A_mNN nn) s ⟨true, 4⟩ (s.setReg .A (s.peek nn))) ∧
  (∀ (n : Byte) s, s.unmappedAt (0xFF00 + n.setWidth 16) = false →
    Completes (.ldh_A_mN n) s ⟨true, 3⟩ (s.setReg .A (s.peek (0xFF00 + n.setWidth 16)))) ∧
  (∀ s, s.unmappedAt (s.pair .HL) = false → Completes .ld_A_mHLI s ⟨true, 2⟩
    ((s.setReg .A (s.peek (s.pair .HL))).setPair .HL (s.pair .HL + 1))) ∧
  (∀ s, s.unmappedAt (s.pair .HL) = false → Completes .ld_A_mHLD s ⟨true, 2⟩
    ((s.setReg .A (s.peek (s.pair .HL))).setPair .HL (s.pair .HL - 1)))

/-- 41_load8.md R203, R204, R207, R208, R210, R212 to R214, R216: the stores of one byte. `State.poke` is the store of 20_memory.md R61
(`RegionsAndReadAfterWrite`). -/
def Obligations.StoreByte : Prop :=
  (∀ r s, s.unmappedAt (s.pair .HL) = false → Completes (.ldMemReg r) s ⟨true, 2⟩ (s.poke (s.pair .HL) (s.reg r))) ∧
  (∀ n s, s.unmappedAt (s.pair .HL) = false → Completes (.ld_mHL_n n) s ⟨true, 3⟩ (s.poke (s.pair .HL) n)) ∧
  (∀ s, s.unmappedAt (s.pair .BC) = false → Completes .ld_mBC_A s ⟨true, 2⟩ (s.poke (s.pair .BC) (s.reg .A))) ∧
  (∀ s, s.unmappedAt (s.pair .DE) = false → Completes .ld_mDE_A s ⟨true, 2⟩ (s.poke (s.pair .DE) (s.reg .A))) ∧
  (∀ nn s, s.unmappedAt nn = false → Completes (.ld_mNN_A nn) s ⟨true, 4⟩ (s.poke nn (s.reg .A))) ∧
  (∀ (n : Byte) s, s.unmappedAt (0xFF00 + n.setWidth 16) = false →
    Completes (.ldh_mN_A n) s ⟨true, 3⟩ (s.poke (0xFF00 + n.setWidth 16) (s.reg .A))) ∧
  (∀ s, s.unmappedAt (0xFF00 + (s.reg .C).setWidth 16) = false →
    Completes .ld_mC_A s ⟨true, 2⟩ (s.poke (0xFF00 + (s.reg .C).setWidth 16) (s.reg .A))) ∧
  (∀ s, s.unmappedAt (s.pair .HL) = false → Completes .ld_mHLI_A s ⟨true, 2⟩
    ((s.poke (s.pair .HL) (s.reg .A)).setPair .HL (s.pair .HL + 1))) ∧
  (∀ s, s.unmappedAt (s.pair .HL) = false → Completes .ld_mHLD_A s ⟨true, 2⟩
    ((s.poke (s.pair .HL) (s.reg .A)).setPair .HL (s.pair .HL - 1)))

/-- 42_load16_stack.md R230 to R233: `LD rr,nn`, `LD (nn),SP`, `LD SP,HL`, `LD HL,SP+e` with the flags of the 16-bit adder (D12). -/
def Obligations.LoadWord : Prop :=
  (∀ p nn s, Completes (.ldReg16Imm (.pair p) nn) s ⟨true, 3⟩ (s.setPair p nn)) ∧
  (∀ nn s, Completes (.ldReg16Imm .SP nn) s ⟨true, 3⟩ { s with sp := nn }) ∧
  (∀ nn s, s.unmappedAt nn = false → s.unmappedAt (nn + 1) = false → Completes (.ld_mNN_SP nn) s ⟨true, 5⟩
    ((s.poke nn (s.sp.setWidth 8)).poke (nn + 1) ((s.sp >>> 8).setWidth 8))) ∧
  (∀ s, Completes .ld_SP_HL s ⟨true, 2⟩ { s with sp := s.pair .HL }) ∧
  (∀ (e : Byte) s, Completes (.ld_HL_SPe e) s ⟨true, 3⟩
    ((s.setFlags (Alu.addWords s.flags s.sp (e.signExtend 16)).2).setPair .HL (s.sp + e.signExtend 16)))

/-- 42_load16_stack.md R234, R235: `PUSH rr` and `POP rr`, little-endian below `sp` (D14), `AF` with the packed flags (D13). -/
def Obligations.PushAndPop : Prop :=
  (∀ p s, s.unmappedAt (s.sp - 2) = false → s.unmappedAt (s.sp - 1) = false → Completes (.pushReg (.pair p)) s ⟨true, 3⟩
    (({ s with sp := s.sp - 2 }.poke (s.sp - 2) (s.reg (pairLo p))).poke (s.sp - 1) (s.reg (pairHi p)))) ∧
  (∀ s, s.unmappedAt (s.sp - 2) = false → s.unmappedAt (s.sp - 1) = false → Completes (.pushReg .AF) s ⟨true, 3⟩
    (({ s with sp := s.sp - 2 }.poke (s.sp - 2) s.flags.pack).poke (s.sp - 1) (s.reg .A))) ∧
  (∀ p s, s.unmappedAt s.sp = false → s.unmappedAt (s.sp + 1) = false → Completes (.popReg (.pair p)) s ⟨true, 3⟩
    (({ s with sp := s.sp + 2 }.setReg (pairHi p) (s.peek (s.sp + 1))).setReg (pairLo p) (s.peek s.sp))) ∧
  (∀ s, s.unmappedAt s.sp = false → s.unmappedAt (s.sp + 1) = false → Completes (.popReg .AF) s ⟨true, 3⟩
    { s.setReg .A (s.peek (s.sp + 1)) with sp := s.sp + 2, flags := Flags.unpack (s.peek s.sp) })

/-- 43_arith8.md R250 to R257: each accumulator operation applies its ALU primitive to `A` and the source and keeps the result and the
flags; `CP` keeps the flags alone. Costs 1 for a register, 2 for `(HL)` and `n`. -/
def Obligations.AccumulatorOperations : Prop :=
  ∀ (src : Source) s, s.sourceUnmapped src = false →
    let keep (q : Byte × Flags) : State := (s.setFlags q.2).setReg .A q.1
    let ch : Charge := ⟨true, match src with | .op (.reg _) => 1 | _ => 2⟩
    Completes (.acc .add src) s ch (keep (Alu.addByte s.flags (s.reg .A) (s.source src))) ∧
    Completes (.acc .adc src) s ch (keep (Alu.addByteWithCarry s.flags (s.reg .A) (s.source src))) ∧
    Completes (.acc .sub src) s ch (keep (Alu.subByte s.flags (s.reg .A) (s.source src))) ∧
    Completes (.acc .sbc src) s ch (keep (Alu.subByteWithCarry s.flags (s.reg .A) (s.source src))) ∧
    Completes (.acc .and src) s ch (keep (Alu.and s.flags (s.reg .A) (s.source src))) ∧
    Completes (.acc .xor src) s ch (keep (Alu.xor s.flags (s.reg .A) (s.source src))) ∧
    Completes (.acc .or src) s ch (keep (Alu.or s.flags (s.reg .A) (s.source src))) ∧
    Completes (.acc .cp src) s ch (s.setFlags (Alu.compare s.flags (s.reg .A) (s.source src)))

/-- 43_arith8.md R258 to R261: `INC` and `DEC` of a register or of the byte at `HL`. -/
def Obligations.IncrementAndDecrement : Prop :=
  ∀ (o : Operand8) s, s.operandUnmapped o = false →
    let ch : Charge := ⟨true, match o with | .reg _ => 1 | .mHL => 3⟩
    Completes (.incOp o) s ch
      ((s.setFlags (Alu.incByte s.flags (s.operand o)).2).putOperand o (Alu.incByte s.flags (s.operand o)).1) ∧
    Completes (.decOp o) s ch
      ((s.setFlags (Alu.decByte s.flags (s.operand o)).2).putOperand o (Alu.decByte s.flags (s.operand o)).1)

/-- 43_arith8.md R262 to R268: `CPL`, `SCF`, `CCF` in both values of `CCF_MODE` (D9), and the accumulator rotates, which set Zero from the
result (D8). -/
def Obligations.AccumulatorAndCarryOperations : Prop :=
  ∀ s : State,
    let keep (q : Byte × Flags) : State := (s.setFlags q.2).setReg .A q.1
    Completes .cpl s ⟨true, 1⟩ (keep (Alu.complement s.flags (s.reg .A))) ∧
    Completes .scf s ⟨true, 1⟩ (s.setFlags (Alu.setCarry s.flags)) ∧
    (s.cfg.ccfMode = .toggle → Completes .ccf s ⟨true, 1⟩ (s.setFlags { s.flags with fC := !s.flags.fC })) ∧
    (s.cfg.ccfMode = .clear → Completes .ccf s ⟨true, 1⟩ (s.setFlags { s.flags with fC := false })) ∧
    Completes .rlca s ⟨true, 1⟩ (keep (Alu.rotateLeftCarry s.flags (s.reg .A))) ∧
    Completes .rrca s ⟨true, 1⟩ (keep (Alu.rotateRightCarry s.flags (s.reg .A))) ∧
    Completes .rla s ⟨true, 1⟩ (keep (Alu.rotateLeft s.flags (s.reg .A))) ∧
    Completes .rra s ⟨true, 1⟩ (keep (Alu.rotateRight s.flags (s.reg .A)))

/-- 44_arith16.md R280 to R283: `INC rr` and `DEC rr` write Zero, Subtract and HalfCarry (D10), `ADD HL,rr` and `ADD SP,e` take their flags
from the 16-bit adder (D12). -/
def Obligations.WordArithmetic : Prop :=
  (∀ p s, Completes (.incReg16 (.pair p)) s ⟨true, 1⟩
    ((s.setFlags (Alu.incWord s.flags (s.pair p)).2).setPair p (s.pair p + 1))) ∧
  (∀ s, Completes (.incReg16 .SP) s ⟨true, 1⟩ { s with sp := s.sp + 1, flags := (Alu.incWord s.flags s.sp).2 }) ∧
  (∀ p s, Completes (.decReg16 (.pair p)) s ⟨true, 1⟩
    ((s.setFlags (Alu.decWord s.flags (s.pair p)).2).setPair p (s.pair p - 1))) ∧
  (∀ s, Completes (.decReg16 .SP) s ⟨true, 1⟩ { s with sp := s.sp - 1, flags := (Alu.decWord s.flags s.sp).2 }) ∧
  (∀ r s, Completes (.addHL r) s ⟨true, 2⟩
    ((s.setFlags (Alu.addWords s.flags (s.pair .HL) (s.reg16 r)).2).setPair .HL (s.pair .HL + s.reg16 r))) ∧
  (∀ (e : Byte) s, Completes (.add_SP_e e) s ⟨true, 3⟩
    { s with sp := s.sp + e.signExtend 16, flags := (Alu.addWords s.flags s.sp (e.signExtend 16)).2 })

/-- 45_control.md R300 to R305: the conditions and the jumps; a relative jump is from the next instruction (D40) and wraps. -/
def Obligations.Jumps : Prop :=
  (∀ f : Flags, f.holds .NZ = !f.fZ ∧ f.holds .Z = f.fZ ∧ f.holds .NC = !f.fC ∧ f.holds .C = f.fC) ∧
  (∀ nn s, Completes (.jp_nn nn) s ⟨true, 3⟩ { s with pc := nn }) ∧
  (∀ cc nn s, Completes (.jpIf cc nn) s ⟨s.flags.holds cc, 3⟩ (if s.flags.holds cc then { s with pc := nn } else s)) ∧
  (∀ s, Completes .jp_mHL s ⟨true, 1⟩ { s with pc := s.pair .HL }) ∧
  (∀ (e : Byte) s, Completes (.jr_e e) s ⟨true, 2⟩ { s with pc := s.pc + e.signExtend 16 }) ∧
  (∀ cc (e : Byte) s, Completes (.jrIf cc e) s ⟨s.flags.holds cc, 2⟩
    (if s.flags.holds cc then { s with pc := s.pc + e.signExtend 16 } else s))

/-- 45_control.md R306, R307, R311: `CALL`, `CALL cc` and `RST t` push the address of the next instruction and jump; `CALL cc` not taken
touches nothing. -/
def Obligations.CallsAndRestarts : Prop :=
  ∀ s : State,
    let pushed : State := ({ s with sp := s.sp - 2 }.poke (s.sp - 2) (s.pc.setWidth 8)).poke (s.sp - 1) ((s.pc >>> 8).setWidth 8)
    (∀ cc nn, s.flags.holds cc = false → Completes (.callIf cc nn) s ⟨false, 3⟩ s) ∧
    (s.unmappedAt (s.sp - 2) = false → s.unmappedAt (s.sp - 1) = false →
      (∀ nn, Completes (.call_nn nn) s ⟨true, 5⟩ { pushed with pc := nn }) ∧
      (∀ cc nn, s.flags.holds cc = true → Completes (.callIf cc nn) s ⟨true, 5⟩ { pushed with pc := nn }) ∧
      (∀ y : Fin 8, Completes (.rst y) s ⟨true, 3⟩ { pushed with pc := BitVec.ofNat 16 (8 * y.val) }))

/-- 45_control.md R308 to R310: `RET`, `RET cc`, `RETI` pop into `pc`; `RETI` also sets `interruptsEnabled` (D32), with effect on the sample
of its own step. -/
def Obligations.Returns : Prop :=
  ∀ s : State,
    let popped : State := { s with pc := s.peek (s.sp + 1) ++ s.peek s.sp, sp := s.sp + 2 }
    (∀ cc, s.flags.holds cc = false → Completes (.retIf cc) s ⟨false, 3⟩ s) ∧
    (s.unmappedAt s.sp = false → s.unmappedAt (s.sp + 1) = false →
      Completes .ret s ⟨true, 4⟩ popped ∧
      (∀ cc, s.flags.holds cc = true → Completes (.retIf cc) s ⟨true, 5⟩ popped) ∧
      Completes .reti s ⟨true, 4⟩ { popped with interruptsEnabled := true })

/-- 46_cb.md R331 to R338: each rotate, shift and swap of the extended table applies its ALU primitive to its operand, writes it back and
keeps the flags. The costs are decision D21. -/
def Obligations.ExtendedRotatesAndShifts : Prop :=
  ∀ (o : Operand8) s, s.operandUnmapped o = false →
    let v := s.operand o
    let keep (q : Byte × Flags) : State := (s.setFlags q.2).putOperand o q.1
    let ch : Charge := ⟨true, match o with | .reg _ => 2 | .mHL => 4⟩
    Completes (.rot .rlc o) s ch (keep (Alu.rotateLeftCarry s.flags v)) ∧
    Completes (.rot .rrc o) s ch (keep (Alu.rotateRightCarry s.flags v)) ∧
    Completes (.rot .rl o) s ch (keep (Alu.rotateLeft s.flags v)) ∧
    Completes (.rot .rr o) s ch (keep (Alu.rotateRight s.flags v)) ∧
    Completes (.rot .sla o) s ch (keep (Alu.shiftLeftSigned s.flags v)) ∧
    Completes (.rot .sra o) s ch (keep (Alu.shiftRightSigned s.flags v)) ∧
    Completes (.rot .swap o) s ch (keep (Alu.swap s.flags v)) ∧
    Completes (.rot .srl o) s ch (keep (Alu.shiftRight s.flags v))

/-- 46_cb.md R339 to R341: `BIT b,s` sets Zero from the tested bit, Subtract and HalfCarry to 0 and 1, and writes nothing back; `RES b,s` and
`SET b,s` clear and set one bit and no flag, written back even when unchanged. The rows are those of `sub` = 0x40–0x7F, 0x80–0xBF, 0xC0–0xFF
with `b = sub[5:3]`. -/
def Obligations.BitTestResetSet : Prop :=
  ∀ (b : Fin 8) (o : Operand8) s, s.operandUnmapped o = false →
    let v := s.operand o
    (encode (.bit b o) = [0xCB, BitVec.ofNat 8 (0x40 + 8 * b.val + o.code)] ∧
      Completes (.bit b o) s ⟨true, match o with | .reg _ => 2 | .mHL => 3⟩
        (s.setFlags ⟨!v.getLsbD b, false, true, s.flags.fC⟩)) ∧
    (encode (.res b o) = [0xCB, BitVec.ofNat 8 (0x80 + 8 * b.val + o.code)] ∧
      Completes (.res b o) s ⟨true, match o with | .reg _ => 2 | .mHL => 4⟩
        (s.putOperand o (v &&& ~~~(1#8 <<< b.val)))) ∧
    (encode (.set b o) = [0xCB, BitVec.ofNat 8 (0xC0 + 8 * b.val + o.code)] ∧
      Completes (.set b o) s ⟨true, match o with | .reg _ => 2 | .mHL => 4⟩
        (s.putOperand o (v ||| (1#8 <<< b.val))))

/-- 47_system.md R360 to R364: `NOP` does nothing, `STOP` clears `running`, `HALT` goes back to its own byte (D33), `DI` and `EI` write
`interruptsEnabled` at once (D32). And 60_exceptions.md R503, 70_reset_and_hazards.md R570, for these and for every instruction: the cost that
`Retires` reports is that of the first entry of `COST` for the instruction's row and outcome, and the default its charge names where there is
none (the default of every row at construction, D21); the row is the byte after 0xCB, or the opcode (R111, R106). That `COST` is a list of
entries is Log 5. -/
def Obligations.SystemInstructions : Prop :=
  (∀ s : State,
    Completes .nop s ⟨true, 1⟩ s ∧
    Completes .stop s ⟨true, 1⟩ { s with running := false } ∧
    Completes .halt s ⟨true, 1⟩ { s with pc := s.pc - 1 } ∧
    Completes .di s ⟨true, 1⟩ { s with interruptsEnabled := false } ∧
    Completes .ei s ⟨true, 1⟩ { s with interruptsEnabled := true }) ∧
  (∀ (p : Params) row ch before e after, p.costs = before ++ e :: after → e.row = row → e.taken = ch.taken →
    (∀ x ∈ before, ¬ (x.row = row ∧ x.taken = ch.taken)) → costOf p row ch = e.cost) ∧
  (∀ (p : Params) row ch, (∀ x ∈ p.costs, ¬ (x.row = row ∧ x.taken = ch.taken)) → costOf p row ch = ch.base) ∧
  Params.default.costs = [] ∧
  (∀ (i : Instr) (sub : Byte), encode i = [0xCB, sub] → i.row = .extended sub) ∧
  (∀ i : Instr, (∀ sub : Byte, encode i ≠ [0xCB, sub]) → i.row = .primary i.opcode)

/-- 47_system.md R365: the row `PREFIX CB` fetches the second byte and runs its extended row, to a next state; it is no instruction of its own
and the decoder never answers it (Log 9). -/
def Obligations.PrefixRunsTheExtendedRow : Prop :=
  (∀ s, s.unmappedAt s.pc = false → ∃ t, exec .prefix_CB s = .next t ∧
    exec (extendedRow (s.peek s.pc)) { s with pc := s.pc + 1 } = .next t) ∧
  (∀ s, s.unmappedAt s.pc = true → exec .prefix_CB s = .next (takeError .memoryAccess (some 0xCB) (s.pc - 1) s)) ∧
  (∀ bytes rest, decode bytes ≠ .ok (.prefix_CB, rest))

/-! ## Where an access raises -/

/-- 60_exceptions.md R505, R507 with the "Exceptions" of 41_load8.md and 43_arith8.md: an unmapped data byte makes every form that reads or
stores one raise MemoryAccessError with nothing changed: no register, no flag, no `HL` move. -/
def Obligations.UnmappedByteRaises : Prop :=
  (∀ s, s.unmappedAt (s.pair .HL) = true →
    (∀ d, Raises (.ldRegMem d) s .memoryAccess s) ∧ (∀ r, Raises (.ldMemReg r) s .memoryAccess s) ∧
    (∀ n, Raises (.ld_mHL_n n) s .memoryAccess s) ∧
    Raises .ld_A_mHLI s .memoryAccess s ∧ Raises .ld_A_mHLD s .memoryAccess s ∧
    Raises .ld_mHLI_A s .memoryAccess s ∧ Raises .ld_mHLD_A s .memoryAccess s ∧
    (∀ op, Raises (.acc op (.op .mHL)) s .memoryAccess s) ∧
    Raises .inc_mHL s .memoryAccess s ∧ Raises .dec_mHL s .memoryAccess s ∧
    (∀ op, Raises (.rot op .mHL) s .memoryAccess s) ∧
    (∀ b, Raises (.bit b .mHL) s .memoryAccess s ∧ Raises (.res b .mHL) s .memoryAccess s ∧
      Raises (.set b .mHL) s .memoryAccess s)) ∧
  (∀ s, s.unmappedAt (s.pair .BC) = true → Raises .ld_A_mBC s .memoryAccess s ∧ Raises .ld_mBC_A s .memoryAccess s) ∧
  (∀ s, s.unmappedAt (s.pair .DE) = true → Raises .ld_A_mDE s .memoryAccess s ∧ Raises .ld_mDE_A s .memoryAccess s) ∧
  (∀ nn s, s.unmappedAt nn = true → Raises (.ld_A_mNN nn) s .memoryAccess s ∧ Raises (.ld_mNN_A nn) s .memoryAccess s) ∧
  (∀ (n : Byte) s, s.unmappedAt (0xFF00 + n.setWidth 16) = true →
    Raises (.ldh_A_mN n) s .memoryAccess s ∧ Raises (.ldh_mN_A n) s .memoryAccess s) ∧
  (∀ s, s.unmappedAt (0xFF00 + (s.reg .C).setWidth 16) = true → Raises .ld_mC_A s .memoryAccess s)

/-- 42_load16_stack.md R231, R234, R235, 45_control.md R306 to R311, 60_exceptions.md R505, R507: an unmapped stack byte. A push has moved `sp`,
and has stored the low byte if the high one raises; a pop has changed nothing; `pc` stays after the instruction. -/
def Obligations.UnmappedStackByteRaises : Prop :=
  (∀ s : State, (s.unmappedAt (s.sp - 2) || s.unmappedAt (s.sp - 1)) = true →
    let left (v : Word) : State :=
      if s.unmappedAt (s.sp - 2) then { s with sp := s.sp - 2 }
      else { s with sp := s.sp - 2 }.poke (s.sp - 2) (v.setWidth 8)
    (∀ r, Raises (.pushReg r) s .memoryAccess (left (s.stackReg r))) ∧
    (∀ nn, Raises (.call_nn nn) s .memoryAccess (left s.pc)) ∧
    (∀ cc nn, s.flags.holds cc = true → Raises (.callIf cc nn) s .memoryAccess (left s.pc)) ∧
    (∀ y, Raises (.rst y) s .memoryAccess (left s.pc))) ∧
  (∀ s : State, (s.unmappedAt s.sp || s.unmappedAt (s.sp + 1)) = true →
    (∀ r, Raises (.popReg r) s .memoryAccess s) ∧ Raises .ret s .memoryAccess s ∧ Raises .reti s .memoryAccess s ∧
    (∀ cc, s.flags.holds cc = true → Raises (.retIf cc) s .memoryAccess s)) ∧
  (∀ nn s, (s.unmappedAt nn || s.unmappedAt (nn + 1)) = true → Raises (.ld_mNN_SP nn) s .memoryAccess
    (if s.unmappedAt nn then s else s.poke nn (s.sp.setWidth 8)))

/-! ## Frames -/

/-- The bytes each storing form may change, computed as its meaning computes them; every other byte reads as before (20_memory.md R76). -/
def Obligations.StoresGoWhereTheFormSays : Prop :=
  (∀ r, StoresOnlyAt (.ldMemReg r) fun s => [s.pair .HL]) ∧ (∀ n, StoresOnlyAt (.ld_mHL_n n) fun s => [s.pair .HL]) ∧
  StoresOnlyAt .ld_mHLI_A (fun s => [s.pair .HL]) ∧ StoresOnlyAt .ld_mHLD_A (fun s => [s.pair .HL]) ∧
  StoresOnlyAt .ld_mBC_A (fun s => [s.pair .BC]) ∧ StoresOnlyAt .ld_mDE_A (fun s => [s.pair .DE]) ∧
  (∀ nn, StoresOnlyAt (.ld_mNN_A nn) fun _ => [nn]) ∧ (∀ n, StoresOnlyAt (.ldh_mN_A n) fun _ => [highPage n]) ∧
  StoresOnlyAt .ld_mC_A (fun s => [highPage (s.reg .C)]) ∧
  (∀ nn, StoresOnlyAt (.ld_mNN_SP nn) fun _ => [nn, nn + 1]) ∧
  (∀ r, StoresOnlyAt (.pushReg r) fun s => [s.sp - 2, s.sp - 1]) ∧
  (∀ nn, StoresOnlyAt (.call_nn nn) fun s => [s.sp - 2, s.sp - 1]) ∧
  (∀ cc nn, StoresOnlyAt (.callIf cc nn) fun s => [s.sp - 2, s.sp - 1]) ∧
  (∀ y, StoresOnlyAt (.rst y) fun s => [s.sp - 2, s.sp - 1]) ∧
  StoresOnlyAt .inc_mHL (fun s => [s.pair .HL]) ∧ StoresOnlyAt .dec_mHL (fun s => [s.pair .HL]) ∧
  (∀ op, StoresOnlyAt (.rot op .mHL) fun s => [s.pair .HL]) ∧
  (∀ b, StoresOnlyAt (.res b .mHL) (fun s => [s.pair .HL]) ∧ StoresOnlyAt (.set b .mHL) fun s => [s.pair .HL])

/-- The forms that store nothing leave every byte as it was (20_memory.md R76). -/
def Obligations.OtherFormsStoreNothing : Prop :=
  (∀ d r, StoresOnlyAt (.ldRegReg d r) fun _ => []) ∧ (∀ d n, StoresOnlyAt (.ldRegImm d n) fun _ => []) ∧
  (∀ d, StoresOnlyAt (.ldRegMem d) fun _ => []) ∧
  (∀ i ∈ [Instr.ld_A_mBC, .ld_A_mDE, .ld_A_mHLI, .ld_A_mHLD, .ld_SP_HL, .cpl, .scf, .ccf, .rlca, .rrca, .rla, .rra,
    .jp_mHL, .ret, .reti, .nop, .stop, .halt, .di, .ei], StoresOnlyAt i fun _ => []) ∧
  (∀ nn, StoresOnlyAt (.ld_A_mNN nn) (fun _ => []) ∧ StoresOnlyAt (.jp_nn nn) fun _ => []) ∧
  (∀ n, StoresOnlyAt (.ldh_A_mN n) (fun _ => []) ∧ StoresOnlyAt (.ld_HL_SPe n) (fun _ => []) ∧
    StoresOnlyAt (.add_SP_e n) (fun _ => []) ∧ StoresOnlyAt (.jr_e n) fun _ => []) ∧
  (∀ r nn, StoresOnlyAt (.ldReg16Imm r nn) fun _ => []) ∧ (∀ r, StoresOnlyAt (.popReg r) fun _ => []) ∧
  (∀ op src, StoresOnlyAt (.acc op src) fun _ => []) ∧
  (∀ r, StoresOnlyAt (.incOp (.reg r)) (fun _ => []) ∧ StoresOnlyAt (.decOp (.reg r)) fun _ => []) ∧
  (∀ r, StoresOnlyAt (.incReg16 r) (fun _ => []) ∧ StoresOnlyAt (.decReg16 r) (fun _ => []) ∧
    StoresOnlyAt (.addHL r) fun _ => []) ∧
  (∀ cc nn, StoresOnlyAt (.jpIf cc nn) fun _ => []) ∧ (∀ cc e, StoresOnlyAt (.jrIf cc e) fun _ => []) ∧
  (∀ cc, StoresOnlyAt (.retIf cc) fun _ => []) ∧ (∀ op r, StoresOnlyAt (.rot op (.reg r)) fun _ => []) ∧
  (∀ b o, StoresOnlyAt (.bit b o) fun _ => []) ∧
  (∀ b r, StoresOnlyAt (.res b (.reg r)) (fun _ => []) ∧ StoresOnlyAt (.set b (.reg r)) fun _ => []) ∧
  (∀ i ∈ Instr.unsupportedRows, StoresOnlyAt i fun _ => [])

/-- The registers each form may change; every other general register keeps its value (10_state.md R20, and "Common" of 41_load8.md). -/
def Obligations.RegistersChangeOnlyAtTheDestination : Prop :=
  (∀ d r, WritesOnly (.ldRegReg d r) [d]) ∧ (∀ d n, WritesOnly (.ldRegImm d n) [d]) ∧ (∀ d, WritesOnly (.ldRegMem d) [d]) ∧
  (∀ r, WritesOnly (.ldMemReg r) []) ∧
  (∀ i ∈ [Instr.ld_A_mBC, .ld_A_mDE, .cpl, .rlca, .rrca, .rla, .rra], WritesOnly i [.A]) ∧
  (∀ nn, WritesOnly (.ld_A_mNN nn) [.A]) ∧ (∀ n, WritesOnly (.ldh_A_mN n) [.A]) ∧
  (∀ i ∈ [Instr.ld_A_mHLI, .ld_A_mHLD], WritesOnly i [.A, .H, .L]) ∧
  (∀ i ∈ [Instr.ld_mHLI_A, .ld_mHLD_A], WritesOnly i [.H, .L]) ∧ (∀ e, WritesOnly (.ld_HL_SPe e) [.H, .L]) ∧
  (∀ p nn, WritesOnly (.ldReg16Imm (.pair p) nn) [pairHi p, pairLo p]) ∧
  (∀ p, WritesOnly (.popReg (.pair p)) [pairHi p, pairLo p]) ∧ WritesOnly (.popReg .AF) [.A] ∧
  (∀ op src, WritesOnly (.acc op src) [.A]) ∧ (∀ src, WritesOnly (.acc .cp src) []) ∧
  (∀ r, WritesOnly (.incOp (.reg r)) [r] ∧ WritesOnly (.decOp (.reg r)) [r]) ∧
  (∀ p, WritesOnly (.incReg16 (.pair p)) [pairHi p, pairLo p] ∧
    WritesOnly (.decReg16 (.pair p)) [pairHi p, pairLo p]) ∧
  (∀ r, WritesOnly (.addHL r) [.H, .L]) ∧
  (∀ op r, WritesOnly (.rot op (.reg r)) [r]) ∧ (∀ b r, WritesOnly (.res b (.reg r)) [r] ∧ WritesOnly (.set b (.reg r)) [r]) ∧
  (∀ i ∈ [Instr.ld_mBC_A, .ld_mDE_A, .ld_mC_A, .ld_SP_HL, .inc_SP, .dec_SP, .inc_mHL, .dec_mHL, .scf, .ccf, .jp_mHL, .ret,
    .reti, .nop, .stop, .halt, .di, .ei], WritesOnly i []) ∧
  (∀ n, WritesOnly (.ld_mHL_n n) [] ∧ WritesOnly (.ldh_mN_A n) [] ∧ WritesOnly (.add_SP_e n) [] ∧
    WritesOnly (.jr_e n) []) ∧
  (∀ nn, WritesOnly (.ld_mNN_A nn) [] ∧ WritesOnly (.ld_mNN_SP nn) [] ∧ WritesOnly (.ld_SP_nn nn) [] ∧
    WritesOnly (.jp_nn nn) [] ∧ WritesOnly (.call_nn nn) []) ∧
  (∀ cc nn e, WritesOnly (.jpIf cc nn) [] ∧ WritesOnly (.callIf cc nn) [] ∧ WritesOnly (.jrIf cc e) [] ∧
    WritesOnly (.retIf cc) []) ∧
  (∀ r, WritesOnly (.pushReg r) []) ∧ (∀ y, WritesOnly (.rst y) []) ∧ (∀ op, WritesOnly (.rot op .mHL) []) ∧
  (∀ b o, WritesOnly (.bit b o) [] ∧ WritesOnly (.res b .mHL) [] ∧ WritesOnly (.set b .mHL) []) ∧
  (∀ i ∈ Instr.unsupportedRows, WritesOnly i [])

/-- The dashes of the table of 10_state.md R28: the flags each group of instructions leaves as they were, however it ends. -/
def Obligations.FlagsChangeOnlyWhereTheTableSays : Prop :=
  ∀ i s t, exec i s = .next t →
    ((∃ d r, i = .ldRegReg d r) ∨ (∃ d n, i = .ldRegImm d n) ∨ (∃ d, i = .ldRegMem d) ∨ (∃ r, i = .ldMemReg r) ∨
      (∃ n, i = .ld_mHL_n n ∨ i = .ldh_mN_A n ∨ i = .ldh_A_mN n ∨ i = .jr_e n) ∨
      (∃ nn, i = .ld_A_mNN nn ∨ i = .ld_mNN_A nn ∨ i = .ld_mNN_SP nn ∨ i = .jp_nn nn ∨ i = .call_nn nn) ∨
      i ∈ [Instr.ld_A_mBC, .ld_A_mDE, .ld_mBC_A, .ld_mDE_A, .ld_mC_A, .ld_mHLI_A, .ld_A_mHLI, .ld_mHLD_A, .ld_A_mHLD,
        .ld_SP_HL, .jp_mHL, .ret, .reti, .nop, .stop, .halt, .di, .ei] ∨
      (∃ r nn, i = .ldReg16Imm r nn) ∨ (∃ r, i = .pushReg r) ∨ (∃ p, i = .popReg (.pair p)) ∨
      (∃ cc nn, i = .jpIf cc nn ∨ i = .callIf cc nn) ∨ (∃ cc e, i = .jrIf cc e) ∨ (∃ cc, i = .retIf cc) ∨
      (∃ y, i = .rst y) ∨ (∃ b o, i = .res b o ∨ i = .set b o) ∨ i ∈ Instr.unsupportedRows → t.flags = s.flags) ∧
    ((∃ o, i = .incOp o ∨ i = .decOp o) ∨ (∃ r, i = .incReg16 r ∨ i = .decReg16 r) ∨ (∃ b o, i = .bit b o) ∨ i = .cpl →
      t.flags.fC = s.flags.fC) ∧
    ((∃ r, i = .addHL r) ∨ (∃ e, i = .add_SP_e e ∨ i = .ld_HL_SPe e) ∨ i ∈ [Instr.cpl, .scf, .ccf] →
      t.flags.fZ = s.flags.fZ) ∧
    (i ∈ [Instr.scf, .ccf] → t.flags.fN = s.flags.fN ∧ t.flags.fH = s.flags.fH)

/-- 10_state.md R24: the instructions that write or move `sp`; no other changes it. -/
def Obligations.OnlyStackInstructionsMoveSp : Prop :=
  ∀ i s t, exec i s = .next t → t.sp ≠ s.sp →
    (∃ nn, i = .ld_SP_nn nn ∨ i = .call_nn nn) ∨ (∃ e, i = .add_SP_e e) ∨
    i ∈ [Instr.ld_SP_HL, .inc_SP, .dec_SP, .ret, .reti] ∨ (∃ r, i = .pushReg r ∨ i = .popReg r) ∨
    (∃ cc nn, i = .callIf cc nn) ∨ (∃ cc, i = .retIf cc) ∨ (∃ y, i = .rst y)

/-! ## The PPU -/

/-- 50_ppu.md R415, R400, R405: after every tick the counter is below the threshold of the mode (derived by the spec from R414), and the
scroll bytes, LCDC and the palette are as the program left them. -/
def Obligations.TickBoundsTheCounterAndKeepsTheRegisters : Prop :=
  ∀ sh m n u, (Ppu.tick sh m n u).1.counter < modeLength (Ppu.tick sh m n u).1.mode ∧
    (Ppu.tick sh m n u).1.scrollX = u.scrollX ∧ (Ppu.tick sh m n u).1.scrollY = u.scrollY ∧
    (Ppu.tick sh m n u).1.lcdc = u.lcdc ∧ (Ppu.tick sh m n u).1.palette = u.palette

/-- 50_ppu.md R410 to R414 (D23): a tick accumulates; while the counter has reached the mode's threshold the mode ends with what R410 to R413
say, and the loop goes on. -/
def Obligations.TickRunsTheModeLoop : Prop :=
  (∀ sh m n u, u.counter + n < modeLength u.mode → Ppu.tick sh m n u = ({ u with counter := u.counter + n }, [])) ∧
  (∀ sh m n u, u.mode = .oamScan → 80 ≤ u.counter + n →
    Ppu.tick sh m n u = Ppu.tick sh m 0 { u with counter := u.counter + n - 80, mode := .pixelTransfer }) ∧
  (∀ sh m n u, u.mode = .pixelTransfer → 172 ≤ u.counter + n →
    Ppu.tick sh m n u =
      Ppu.tick sh m 0 { renderScanline sh m u with counter := u.counter + n - 172, mode := .hBlank }) ∧
  (∀ sh m n u, u.mode = .hBlank → 204 ≤ u.counter + n → u.line ≠ 142 →
    Ppu.tick sh m n u =
      Ppu.tick sh m 0 { u with counter := u.counter + n - 204, line := u.line + 1, mode := .oamScan }) ∧
  (∀ sh m n u, u.mode = .hBlank → 204 ≤ u.counter + n → u.line = 142 →
    (Ppu.tick sh m n u).1 =
      (Ppu.tick sh m 0 { u with counter := u.counter + n - 204, line := 143, mode := .vBlank }).1 ∧
    (Ppu.tick sh m n u).2 = u.framebuffer ::
      (Ppu.tick sh m 0 { u with counter := u.counter + n - 204, line := 143, mode := .vBlank }).2) ∧
  (∀ sh m n u, u.mode = .vBlank → 456 ≤ u.counter + n → Ppu.tick sh m n u = Ppu.tick sh m 0
    (if 153 < (u.line + 1).toNat then { u with counter := u.counter + n - 456, line := 0, mode := .oamScan }
      else { u with counter := u.counter + n - 456, line := u.line + 1 }))

/-- 50_ppu.md R414: the PPU is phase-locked to the reported cycles: two ticks are one tick of their sum. -/
def Obligations.TicksAdd : Prop :=
  ∀ sh m k n u, Ppu.tick sh m (k + n) u =
    ((Ppu.tick sh m n (Ppu.tick sh m k u).1).1,
      (Ppu.tick sh m k u).2 ++ (Ppu.tick sh m n (Ppu.tick sh m k u).1).2)

/-- 50_ppu.md R413, R422, R423: from the start of line 0 a frame is 70,224 clock cycles: the same mode, counter and line again, and exactly
one present; a line is 456 cycles, and after line 142 comes VBlank with line 143. -/
def Obligations.FrameIs70224Cycles : Prop :=
  (∀ sh m u, u.mode = .oamScan → u.counter = 0 → u.line = 0 →
    (Ppu.tick sh m 70224 u).1.mode = .oamScan ∧ (Ppu.tick sh m 70224 u).1.counter = 0 ∧
    (Ppu.tick sh m 70224 u).1.line = 0 ∧ (Ppu.tick sh m 70224 u).2.length = 1 ∧
    (Ppu.tick sh m 65207 u).2 = []) ∧
  (∀ sh m u, u.mode = .oamScan → u.counter = 0 → u.line ≠ 142 →
    (Ppu.tick sh m 456 u).1.mode = .oamScan ∧ (Ppu.tick sh m 456 u).1.counter = 0 ∧
    (Ppu.tick sh m 456 u).1.line = u.line + 1 ∧ (Ppu.tick sh m 456 u).2 = []) ∧
  (∀ sh m u, u.mode = .oamScan → u.counter = 0 → u.line = 142 →
    (Ppu.tick sh m 456 u).1.mode = .vBlank ∧ (Ppu.tick sh m 456 u).1.counter = 0 ∧
    (Ppu.tick sh m 456 u).1.line = 143 ∧ (Ppu.tick sh m 456 u).2.length = 1)

/-- 50_ppu.md R416 to R421, R424: the shade of each pixel of the rendered row, from the tile map, the tile data, the two bitplanes, the palette
and `SHADE`; every other row is kept; nothing is rendered on a line from 144 up. Addresses and orders are decisions D26, D28. -/
def Obligations.ScanlineRendersTheBackground : Prop :=
  (∀ sh m u px, u.framebuffer.length = 144 → u.line.toNat < 144 → px < 160 →
    let y := (u.scrollY + u.line).toNat
    let map := if u.lcdc.tileMapSelect then 0x9C00 else 0x9800
    let idx := m.read (map + 32 * (y / 8) + (u.scrollX.toNat / 8 + px / 8) % 32)
    let tile := if u.lcdc.tileDataSelect then 0x8000 + 16 * idx.toNat else (0x9000 + 16 * idx.toInt).toNat
    let lo := (m.read (tile + 2 * (y % 8))).getLsbD (7 - px % 8)
    let hi := (m.read (tile + 2 * (y % 8) + 1)).getLsbD (7 - px % 8)
    let code := match hi, lo with
      | false, false => u.palette.p0
      | false, true => u.palette.p1
      | true, false => u.palette.p2
      | true, true => u.palette.p3
    ((renderScanline sh m u).framebuffer[u.line.toNat]?.bind (·[px]?)) = some (shadeOf sh code)) ∧
  (∀ sh m u row, row ≠ u.line.toNat → (renderScanline sh m u).framebuffer[row]? = u.framebuffer[row]?) ∧
  (∀ sh m u, 144 ≤ u.line.toNat → renderScanline sh m u = u) ∧
  (∀ sh m u, { renderScanline sh m u with framebuffer := u.framebuffer } = u)

/-- 50_ppu.md R406, R419 (D25, D27): six LCDC fields and the low three bits of `scrollX` have no effect on what a tick does to the mode, the
counter, the line, the framebuffer and the presents. -/
def Obligations.FieldsWithoutEffect : Prop :=
  ∀ sh m n u lcdc scrollX, lcdc.tileMapSelect = u.lcdc.tileMapSelect → lcdc.tileDataSelect = u.lcdc.tileDataSelect →
    scrollX.toNat / 8 = u.scrollX.toNat / 8 →
    Ppu.tick sh m n { u with lcdc := lcdc, scrollX := scrollX } =
      ({ (Ppu.tick sh m n u).1 with lcdc := lcdc, scrollX := scrollX }, (Ppu.tick sh m n u).2)

/-! ## Reset and the host -/

/-- 70_reset_and_hazards.md R551: after construction the first byte a step fetches is `BOOT_ROM[0]`, at address 0, with the overlay present
(0x00 where no byte is loaded is the model's choice, Log 1); and 20_memory.md R70: under the overlay every byte `k < 256` of the loaded boot
program is what address `k` reads, and loading it changes nothing else. That the host loads it before the run is the model's choice (Logs
10, 16), its content a parameter by decision D19 (Log 17). -/
def Obligations.FirstFetchIsBootRomByte0 : Prop :=
  (∀ rom : List Byte, (Session.loadBootRom rom State.reset).pc = 0 ∧
    (Session.loadBootRom rom State.reset).bootOverlay = true ∧
    ∃ t, fetch8 (leaveBoot (Session.loadBootRom rom State.reset)) = .ok (rom.headD 0) t) ∧
  (∀ (s : State) (rom : List Byte) (k : Nat), rom.length = 256 → s.bootOverlay = true → k < 256 →
    some ((Session.loadBootRom rom s).peek (BitVec.ofNat 16 k)) = rom[k]?) ∧
  (∀ (s : State) (rom : List Byte), { Session.loadBootRom rom s with bootRom := s.bootRom } = s)

/-- 20_memory.md R71, 70_reset_and_hazards.md R552, 60_exceptions.md R515, R516: a loaded image is read back, bank 0 from 0x0000 and bank 1
from 0x4000, every byte of each; later bytes are ignored; a shorter image is refused (D20). An explicit reset of a running machine clears the
registers, the flags, `pc` and `sp` and nothing else (D35); an external shutdown clears `running` and nothing else (D36). The state of a
stopped machine is final: no event of a session changes it (D45; that the host's acts are among these events is Logs 10 and 21). -/
def Obligations.HostEventsTouchNothingElse : Prop :=
  (∀ s cart, cart.length < 0x8000 → Session.loadCartridge cart s = .refused (.cartridgeTooShort cart.length)) ∧
  (∀ s cart, 0x8000 ≤ cart.length → ∃ t, Session.loadCartridge cart s = .next t ∧
    (∀ a, a < 0x8000 → some (t.mem.read a) = cart[a]?) ∧ (∀ a, 0x8000 ≤ a → t.mem.read a = s.mem.read a) ∧
    { t with mem := s.mem } = s) ∧
  (∀ s : State, s.running = true → ∃ t, Session.event .explicitReset s = .next t ∧ (∀ r, t.reg r = 0) ∧ (∀ p, t.pair p = 0) ∧ t.flags.pack = 0 ∧
    t.pc = 0 ∧ t.sp = 0 ∧
    { t with regs := s.regs, flags := s.flags, pc := s.pc, sp := s.sp } = s) ∧
  (∀ s : State, ∃ t, Session.event .shutdown s = .next t ∧ t.running = false ∧ { t with running := s.running } = s) ∧
  (∀ (s : State) e, s.running = false → Session.event e s = .next s)
end

