-- ==== Sys2Proof/Laws/Bits.lean ====
section
/-! SUPPORT. The bit-field helpers as numbers, and as the core library's operations. -/

namespace Sys2Proof.Machine

theorem wordOf_toNat (hi lo : Byte) : (wordOf hi lo).toNat = 256 * hi.toNat + lo.toNat := by
  have h := lo.isLt
  simp only [wordOf, BitVec.toNat_append, Nat.shiftLeft_eq]
  rw [Nat.mul_comm, ← Nat.two_pow_add_eq_or_of_lt h]

theorem loByte_toNat (w : Word) : (loByte w).toNat = w.toNat % 256 := by
  simp [loByte, BitVec.extractLsb'_toNat]

theorem hiByte_toNat (w : Word) : (hiByte w).toNat = w.toNat / 256 := by
  have h := w.isLt
  simp only [hiByte, BitVec.extractLsb'_toNat, Nat.shiftRight_eq_div_pow]
  exact Nat.mod_eq_of_lt (by omega)

theorem loByte_eq (w : Word) : loByte w = w.setWidth 8 := by
  apply BitVec.eq_of_toNat_eq
  simp [loByte_toNat]

theorem hiByte_eq (w : Word) : hiByte w = (w >>> 8).setWidth 8 := by
  apply BitVec.eq_of_toNat_eq
  have h := w.isLt
  simp only [hiByte_toNat, BitVec.toNat_setWidth, BitVec.toNat_ushiftRight, Nat.shiftRight_eq_div_pow]
  exact (Nat.mod_eq_of_lt (by omega)).symm

theorem sext16_eq (v : Byte) : sext16 v = v.signExtend 16 := by
  revert v; decide +kernel

theorem signedByte_eq (v : Byte) : signedByte v = v.toInt := by
  revert v; decide +kernel

theorem relativeTarget_eq (pc : Word) (e : Byte) : relativeTarget pc e = pc + e.signExtend 16 := by
  have he : ((e.signExtend 16 : Word)).toInt = e.toInt := BitVec.toInt_signExtend_of_le (by decide)
  rw [relativeTarget, signedByte_eq, ← he, BitVec.ofInt_add, BitVec.ofInt_toInt]
  simp

end Sys2Proof.Machine
end

