-- ==== Sys2Proof/Laws/State.lean ====
section
/-! SUPPORT. The small lemmas of State: what each update of the state does to each field, one lemma per field and update, so that
no later proof unfolds a record update; and what the register accessors read after each update. -/

namespace Sys2Proof.Machine

/-- The interrupt sample appends at most one record to the log and changes nothing else (60_exceptions.md R513). -/
theorem sampleInterrupt_eq (op : Byte) (a : Word) (s : State) :
    sampleInterrupt op a s =
      { s with log := s.log ++
          if s.interruptsEnabled && s.unmappedAt 0xFF0F#16 then [⟨.memoryAccess, some op, a, s.history⟩] else [] } := by
  cases hi : s.interruptsEnabled <;> cases hu : s.unmappedAt 0xFF0F#16 <;>
    simp only [sampleInterrupt, readByte, takeError, hi, hu] <;> simp <;> cases s <;> simp_all

/-! ## `setReg` -/

@[simp] theorem State.setReg_flags (s : State) (r : Reg8) (v : Byte) : (s.setReg r v).flags = s.flags :=
  by cases r <;> rfl
@[simp] theorem State.setReg_sp (s : State) (r : Reg8) (v : Byte) : (s.setReg r v).sp = s.sp := by cases r <;> rfl
@[simp] theorem State.setReg_pc (s : State) (r : Reg8) (v : Byte) : (s.setReg r v).pc = s.pc := by cases r <;> rfl
@[simp] theorem State.setReg_interruptsEnabled (s : State) (r : Reg8) (v : Byte) : (s.setReg r v).interruptsEnabled = s.interruptsEnabled :=
  by cases r <;> rfl
@[simp] theorem State.setReg_running (s : State) (r : Reg8) (v : Byte) : (s.setReg r v).running = s.running :=
  by cases r <;> rfl
@[simp] theorem State.setReg_bootOverlay (s : State) (r : Reg8) (v : Byte) : (s.setReg r v).bootOverlay = s.bootOverlay :=
  by cases r <;> rfl
@[simp] theorem State.setReg_bootRom (s : State) (r : Reg8) (v : Byte) : (s.setReg r v).bootRom = s.bootRom :=
  by cases r <;> rfl
@[simp] theorem State.setReg_mem (s : State) (r : Reg8) (v : Byte) : (s.setReg r v).mem = s.mem := by cases r <;> rfl
@[simp] theorem State.setReg_ppu (s : State) (r : Reg8) (v : Byte) : (s.setReg r v).ppu = s.ppu := by cases r <;> rfl
@[simp] theorem State.setReg_history (s : State) (r : Reg8) (v : Byte) : (s.setReg r v).history = s.history :=
  by cases r <;> rfl
@[simp] theorem State.setReg_clock (s : State) (r : Reg8) (v : Byte) : (s.setReg r v).clock = s.clock :=
  by cases r <;> rfl
@[simp] theorem State.setReg_log (s : State) (r : Reg8) (v : Byte) : (s.setReg r v).log = s.log := by cases r <;> rfl
@[simp] theorem State.setReg_presents (s : State) (r : Reg8) (v : Byte) : (s.setReg r v).presents = s.presents :=
  by cases r <;> rfl
@[simp] theorem State.setReg_cfg (s : State) (r : Reg8) (v : Byte) : (s.setReg r v).cfg = s.cfg := by cases r <;> rfl

/-! ## `setFlags` -/

@[simp] theorem State.setFlags_regs (s : State) (f : Flags) : (s.setFlags f).regs = s.regs := rfl
@[simp] theorem State.setFlags_sp (s : State) (f : Flags) : (s.setFlags f).sp = s.sp := rfl
@[simp] theorem State.setFlags_pc (s : State) (f : Flags) : (s.setFlags f).pc = s.pc := rfl
@[simp] theorem State.setFlags_interruptsEnabled (s : State) (f : Flags) : (s.setFlags f).interruptsEnabled = s.interruptsEnabled :=
  rfl
@[simp] theorem State.setFlags_running (s : State) (f : Flags) : (s.setFlags f).running = s.running := rfl
@[simp] theorem State.setFlags_bootOverlay (s : State) (f : Flags) : (s.setFlags f).bootOverlay = s.bootOverlay := rfl
@[simp] theorem State.setFlags_bootRom (s : State) (f : Flags) : (s.setFlags f).bootRom = s.bootRom := rfl
@[simp] theorem State.setFlags_mem (s : State) (f : Flags) : (s.setFlags f).mem = s.mem := rfl
@[simp] theorem State.setFlags_ppu (s : State) (f : Flags) : (s.setFlags f).ppu = s.ppu := rfl
@[simp] theorem State.setFlags_history (s : State) (f : Flags) : (s.setFlags f).history = s.history := rfl
@[simp] theorem State.setFlags_clock (s : State) (f : Flags) : (s.setFlags f).clock = s.clock := rfl
@[simp] theorem State.setFlags_log (s : State) (f : Flags) : (s.setFlags f).log = s.log := rfl
@[simp] theorem State.setFlags_presents (s : State) (f : Flags) : (s.setFlags f).presents = s.presents := rfl
@[simp] theorem State.setFlags_cfg (s : State) (f : Flags) : (s.setFlags f).cfg = s.cfg := rfl

/-! ## `setSp` -/

@[simp] theorem State.setSp_regs (s : State) (a : Word) : (s.setSp a).regs = s.regs := rfl
@[simp] theorem State.setSp_flags (s : State) (a : Word) : (s.setSp a).flags = s.flags := rfl
@[simp] theorem State.setSp_pc (s : State) (a : Word) : (s.setSp a).pc = s.pc := rfl
@[simp] theorem State.setSp_interruptsEnabled (s : State) (a : Word) : (s.setSp a).interruptsEnabled = s.interruptsEnabled :=
  rfl
@[simp] theorem State.setSp_running (s : State) (a : Word) : (s.setSp a).running = s.running := rfl
@[simp] theorem State.setSp_bootOverlay (s : State) (a : Word) : (s.setSp a).bootOverlay = s.bootOverlay := rfl
@[simp] theorem State.setSp_bootRom (s : State) (a : Word) : (s.setSp a).bootRom = s.bootRom := rfl
@[simp] theorem State.setSp_mem (s : State) (a : Word) : (s.setSp a).mem = s.mem := rfl
@[simp] theorem State.setSp_ppu (s : State) (a : Word) : (s.setSp a).ppu = s.ppu := rfl
@[simp] theorem State.setSp_history (s : State) (a : Word) : (s.setSp a).history = s.history := rfl
@[simp] theorem State.setSp_clock (s : State) (a : Word) : (s.setSp a).clock = s.clock := rfl
@[simp] theorem State.setSp_log (s : State) (a : Word) : (s.setSp a).log = s.log := rfl
@[simp] theorem State.setSp_presents (s : State) (a : Word) : (s.setSp a).presents = s.presents := rfl
@[simp] theorem State.setSp_cfg (s : State) (a : Word) : (s.setSp a).cfg = s.cfg := rfl

/-! ## `setPc` -/

@[simp] theorem State.setPc_regs (s : State) (a : Word) : (s.setPc a).regs = s.regs := rfl
@[simp] theorem State.setPc_flags (s : State) (a : Word) : (s.setPc a).flags = s.flags := rfl
@[simp] theorem State.setPc_sp (s : State) (a : Word) : (s.setPc a).sp = s.sp := rfl
@[simp] theorem State.setPc_interruptsEnabled (s : State) (a : Word) : (s.setPc a).interruptsEnabled = s.interruptsEnabled :=
  rfl
@[simp] theorem State.setPc_running (s : State) (a : Word) : (s.setPc a).running = s.running := rfl
@[simp] theorem State.setPc_bootOverlay (s : State) (a : Word) : (s.setPc a).bootOverlay = s.bootOverlay := rfl
@[simp] theorem State.setPc_bootRom (s : State) (a : Word) : (s.setPc a).bootRom = s.bootRom := rfl
@[simp] theorem State.setPc_mem (s : State) (a : Word) : (s.setPc a).mem = s.mem := rfl
@[simp] theorem State.setPc_ppu (s : State) (a : Word) : (s.setPc a).ppu = s.ppu := rfl
@[simp] theorem State.setPc_history (s : State) (a : Word) : (s.setPc a).history = s.history := rfl
@[simp] theorem State.setPc_clock (s : State) (a : Word) : (s.setPc a).clock = s.clock := rfl
@[simp] theorem State.setPc_log (s : State) (a : Word) : (s.setPc a).log = s.log := rfl
@[simp] theorem State.setPc_presents (s : State) (a : Word) : (s.setPc a).presents = s.presents := rfl
@[simp] theorem State.setPc_cfg (s : State) (a : Word) : (s.setPc a).cfg = s.cfg := rfl

/-! ## `setPair` -/

@[simp] theorem State.setPair_flags (s : State) (p : Pair) (v : Word) : (s.setPair p v).flags = s.flags :=
  by cases p <;> rfl
@[simp] theorem State.setPair_sp (s : State) (p : Pair) (v : Word) : (s.setPair p v).sp = s.sp := by cases p <;> rfl
@[simp] theorem State.setPair_pc (s : State) (p : Pair) (v : Word) : (s.setPair p v).pc = s.pc := by cases p <;> rfl
@[simp] theorem State.setPair_interruptsEnabled (s : State) (p : Pair) (v : Word) : (s.setPair p v).interruptsEnabled = s.interruptsEnabled :=
  by cases p <;> rfl
@[simp] theorem State.setPair_running (s : State) (p : Pair) (v : Word) : (s.setPair p v).running = s.running :=
  by cases p <;> rfl
@[simp] theorem State.setPair_bootOverlay (s : State) (p : Pair) (v : Word) : (s.setPair p v).bootOverlay = s.bootOverlay :=
  by cases p <;> rfl
@[simp] theorem State.setPair_bootRom (s : State) (p : Pair) (v : Word) : (s.setPair p v).bootRom = s.bootRom :=
  by cases p <;> rfl
@[simp] theorem State.setPair_mem (s : State) (p : Pair) (v : Word) : (s.setPair p v).mem = s.mem :=
  by cases p <;> rfl
@[simp] theorem State.setPair_ppu (s : State) (p : Pair) (v : Word) : (s.setPair p v).ppu = s.ppu :=
  by cases p <;> rfl
@[simp] theorem State.setPair_history (s : State) (p : Pair) (v : Word) : (s.setPair p v).history = s.history :=
  by cases p <;> rfl
@[simp] theorem State.setPair_clock (s : State) (p : Pair) (v : Word) : (s.setPair p v).clock = s.clock :=
  by cases p <;> rfl
@[simp] theorem State.setPair_log (s : State) (p : Pair) (v : Word) : (s.setPair p v).log = s.log :=
  by cases p <;> rfl
@[simp] theorem State.setPair_presents (s : State) (p : Pair) (v : Word) : (s.setPair p v).presents = s.presents :=
  by cases p <;> rfl
@[simp] theorem State.setPair_cfg (s : State) (p : Pair) (v : Word) : (s.setPair p v).cfg = s.cfg :=
  by cases p <;> rfl

/-! ## `setReg16` -/

@[simp] theorem State.setReg16_flags (s : State) (r : Reg16) (v : Word) : (s.setReg16 r v).flags = s.flags :=
  by rcases r with p | _ <;> first | rfl | (cases p <;> rfl)
@[simp] theorem State.setReg16_pc (s : State) (r : Reg16) (v : Word) : (s.setReg16 r v).pc = s.pc :=
  by rcases r with p | _ <;> first | rfl | (cases p <;> rfl)
@[simp] theorem State.setReg16_interruptsEnabled (s : State) (r : Reg16) (v : Word) : (s.setReg16 r v).interruptsEnabled = s.interruptsEnabled :=
  by rcases r with p | _ <;> first | rfl | (cases p <;> rfl)
@[simp] theorem State.setReg16_running (s : State) (r : Reg16) (v : Word) : (s.setReg16 r v).running = s.running :=
  by rcases r with p | _ <;> first | rfl | (cases p <;> rfl)
@[simp] theorem State.setReg16_bootOverlay (s : State) (r : Reg16) (v : Word) : (s.setReg16 r v).bootOverlay = s.bootOverlay :=
  by rcases r with p | _ <;> first | rfl | (cases p <;> rfl)
@[simp] theorem State.setReg16_bootRom (s : State) (r : Reg16) (v : Word) : (s.setReg16 r v).bootRom = s.bootRom :=
  by rcases r with p | _ <;> first | rfl | (cases p <;> rfl)
@[simp] theorem State.setReg16_mem (s : State) (r : Reg16) (v : Word) : (s.setReg16 r v).mem = s.mem :=
  by rcases r with p | _ <;> first | rfl | (cases p <;> rfl)
@[simp] theorem State.setReg16_ppu (s : State) (r : Reg16) (v : Word) : (s.setReg16 r v).ppu = s.ppu :=
  by rcases r with p | _ <;> first | rfl | (cases p <;> rfl)
@[simp] theorem State.setReg16_history (s : State) (r : Reg16) (v : Word) : (s.setReg16 r v).history = s.history :=
  by rcases r with p | _ <;> first | rfl | (cases p <;> rfl)
@[simp] theorem State.setReg16_clock (s : State) (r : Reg16) (v : Word) : (s.setReg16 r v).clock = s.clock :=
  by rcases r with p | _ <;> first | rfl | (cases p <;> rfl)
@[simp] theorem State.setReg16_log (s : State) (r : Reg16) (v : Word) : (s.setReg16 r v).log = s.log :=
  by rcases r with p | _ <;> first | rfl | (cases p <;> rfl)
@[simp] theorem State.setReg16_presents (s : State) (r : Reg16) (v : Word) : (s.setReg16 r v).presents = s.presents :=
  by rcases r with p | _ <;> first | rfl | (cases p <;> rfl)
@[simp] theorem State.setReg16_cfg (s : State) (r : Reg16) (v : Word) : (s.setReg16 r v).cfg = s.cfg :=
  by rcases r with p | _ <;> first | rfl | (cases p <;> rfl)

/-! ## `setStackReg` -/

@[simp] theorem State.setStackReg_sp (s : State) (r : StackReg) (v : Word) : (s.setStackReg r v).sp = s.sp :=
  by rcases r with p | _ <;> first | rfl | (cases p <;> rfl)
@[simp] theorem State.setStackReg_pc (s : State) (r : StackReg) (v : Word) : (s.setStackReg r v).pc = s.pc :=
  by rcases r with p | _ <;> first | rfl | (cases p <;> rfl)
@[simp] theorem State.setStackReg_interruptsEnabled (s : State) (r : StackReg) (v : Word) : (s.setStackReg r v).interruptsEnabled = s.interruptsEnabled :=
  by rcases r with p | _ <;> first | rfl | (cases p <;> rfl)
@[simp] theorem State.setStackReg_running (s : State) (r : StackReg) (v : Word) : (s.setStackReg r v).running = s.running :=
  by rcases r with p | _ <;> first | rfl | (cases p <;> rfl)
@[simp] theorem State.setStackReg_bootOverlay (s : State) (r : StackReg) (v : Word) : (s.setStackReg r v).bootOverlay = s.bootOverlay :=
  by rcases r with p | _ <;> first | rfl | (cases p <;> rfl)
@[simp] theorem State.setStackReg_bootRom (s : State) (r : StackReg) (v : Word) : (s.setStackReg r v).bootRom = s.bootRom :=
  by rcases r with p | _ <;> first | rfl | (cases p <;> rfl)
@[simp] theorem State.setStackReg_mem (s : State) (r : StackReg) (v : Word) : (s.setStackReg r v).mem = s.mem :=
  by rcases r with p | _ <;> first | rfl | (cases p <;> rfl)
@[simp] theorem State.setStackReg_ppu (s : State) (r : StackReg) (v : Word) : (s.setStackReg r v).ppu = s.ppu :=
  by rcases r with p | _ <;> first | rfl | (cases p <;> rfl)
@[simp] theorem State.setStackReg_history (s : State) (r : StackReg) (v : Word) : (s.setStackReg r v).history = s.history :=
  by rcases r with p | _ <;> first | rfl | (cases p <;> rfl)
@[simp] theorem State.setStackReg_clock (s : State) (r : StackReg) (v : Word) : (s.setStackReg r v).clock = s.clock :=
  by rcases r with p | _ <;> first | rfl | (cases p <;> rfl)
@[simp] theorem State.setStackReg_log (s : State) (r : StackReg) (v : Word) : (s.setStackReg r v).log = s.log :=
  by rcases r with p | _ <;> first | rfl | (cases p <;> rfl)
@[simp] theorem State.setStackReg_presents (s : State) (r : StackReg) (v : Word) : (s.setStackReg r v).presents = s.presents :=
  by rcases r with p | _ <;> first | rfl | (cases p <;> rfl)
@[simp] theorem State.setStackReg_cfg (s : State) (r : StackReg) (v : Word) : (s.setStackReg r v).cfg = s.cfg :=
  by rcases r with p | _ <;> first | rfl | (cases p <;> rfl)

/-! ## `poke` -/

@[simp] theorem State.poke_regs (s : State) (a : Word) (v : Byte) : (s.poke a v).regs = s.regs :=
  by unfold State.poke; split <;> (try split) <;> rfl
@[simp] theorem State.poke_flags (s : State) (a : Word) (v : Byte) : (s.poke a v).flags = s.flags :=
  by unfold State.poke; split <;> (try split) <;> rfl
@[simp] theorem State.poke_sp (s : State) (a : Word) (v : Byte) : (s.poke a v).sp = s.sp :=
  by unfold State.poke; split <;> (try split) <;> rfl
@[simp] theorem State.poke_pc (s : State) (a : Word) (v : Byte) : (s.poke a v).pc = s.pc :=
  by unfold State.poke; split <;> (try split) <;> rfl
@[simp] theorem State.poke_interruptsEnabled (s : State) (a : Word) (v : Byte) : (s.poke a v).interruptsEnabled = s.interruptsEnabled :=
  by unfold State.poke; split <;> (try split) <;> rfl
@[simp] theorem State.poke_running (s : State) (a : Word) (v : Byte) : (s.poke a v).running = s.running :=
  by unfold State.poke; split <;> (try split) <;> rfl
@[simp] theorem State.poke_bootOverlay (s : State) (a : Word) (v : Byte) : (s.poke a v).bootOverlay = s.bootOverlay :=
  by unfold State.poke; split <;> (try split) <;> rfl
@[simp] theorem State.poke_bootRom (s : State) (a : Word) (v : Byte) : (s.poke a v).bootRom = s.bootRom :=
  by unfold State.poke; split <;> (try split) <;> rfl
@[simp] theorem State.poke_history (s : State) (a : Word) (v : Byte) : (s.poke a v).history = s.history :=
  by unfold State.poke; split <;> (try split) <;> rfl
@[simp] theorem State.poke_clock (s : State) (a : Word) (v : Byte) : (s.poke a v).clock = s.clock :=
  by unfold State.poke; split <;> (try split) <;> rfl
@[simp] theorem State.poke_log (s : State) (a : Word) (v : Byte) : (s.poke a v).log = s.log :=
  by unfold State.poke; split <;> (try split) <;> rfl
@[simp] theorem State.poke_presents (s : State) (a : Word) (v : Byte) : (s.poke a v).presents = s.presents :=
  by unfold State.poke; split <;> (try split) <;> rfl
@[simp] theorem State.poke_cfg (s : State) (a : Word) (v : Byte) : (s.poke a v).cfg = s.cfg :=
  by unfold State.poke; split <;> (try split) <;> rfl

/-! ## `record` -/

@[simp] theorem State.record_regs (s : State) (a : Word) (op : Byte) : (s.record a op).regs = s.regs := rfl
@[simp] theorem State.record_flags (s : State) (a : Word) (op : Byte) : (s.record a op).flags = s.flags := rfl
@[simp] theorem State.record_sp (s : State) (a : Word) (op : Byte) : (s.record a op).sp = s.sp := rfl
@[simp] theorem State.record_pc (s : State) (a : Word) (op : Byte) : (s.record a op).pc = s.pc := rfl
@[simp] theorem State.record_interruptsEnabled (s : State) (a : Word) (op : Byte) : (s.record a op).interruptsEnabled = s.interruptsEnabled :=
  rfl
@[simp] theorem State.record_running (s : State) (a : Word) (op : Byte) : (s.record a op).running = s.running := rfl
@[simp] theorem State.record_bootOverlay (s : State) (a : Word) (op : Byte) : (s.record a op).bootOverlay = s.bootOverlay :=
  rfl
@[simp] theorem State.record_bootRom (s : State) (a : Word) (op : Byte) : (s.record a op).bootRom = s.bootRom := rfl
@[simp] theorem State.record_mem (s : State) (a : Word) (op : Byte) : (s.record a op).mem = s.mem := rfl
@[simp] theorem State.record_ppu (s : State) (a : Word) (op : Byte) : (s.record a op).ppu = s.ppu := rfl
@[simp] theorem State.record_clock (s : State) (a : Word) (op : Byte) : (s.record a op).clock = s.clock := rfl
@[simp] theorem State.record_log (s : State) (a : Word) (op : Byte) : (s.record a op).log = s.log := rfl
@[simp] theorem State.record_presents (s : State) (a : Word) (op : Byte) : (s.record a op).presents = s.presents :=
  rfl
@[simp] theorem State.record_cfg (s : State) (a : Word) (op : Byte) : (s.record a op).cfg = s.cfg := rfl

/-! ## `takeError` -/

@[simp] theorem takeError_regs (e : ErrorKind) (op : Option Byte) (a : Word) (s : State) : (takeError e op a s).regs = s.regs :=
  rfl
@[simp] theorem takeError_flags (e : ErrorKind) (op : Option Byte) (a : Word) (s : State) : (takeError e op a s).flags = s.flags :=
  rfl
@[simp] theorem takeError_sp (e : ErrorKind) (op : Option Byte) (a : Word) (s : State) : (takeError e op a s).sp = s.sp :=
  rfl
@[simp] theorem takeError_pc (e : ErrorKind) (op : Option Byte) (a : Word) (s : State) : (takeError e op a s).pc = s.pc :=
  rfl
@[simp] theorem takeError_interruptsEnabled (e : ErrorKind) (op : Option Byte) (a : Word) (s : State) : (takeError e op a s).interruptsEnabled = s.interruptsEnabled :=
  rfl
@[simp] theorem takeError_running (e : ErrorKind) (op : Option Byte) (a : Word) (s : State) : (takeError e op a s).running = s.running :=
  rfl
@[simp] theorem takeError_bootOverlay (e : ErrorKind) (op : Option Byte) (a : Word) (s : State) : (takeError e op a s).bootOverlay = s.bootOverlay :=
  rfl
@[simp] theorem takeError_bootRom (e : ErrorKind) (op : Option Byte) (a : Word) (s : State) : (takeError e op a s).bootRom = s.bootRom :=
  rfl
@[simp] theorem takeError_mem (e : ErrorKind) (op : Option Byte) (a : Word) (s : State) : (takeError e op a s).mem = s.mem :=
  rfl
@[simp] theorem takeError_ppu (e : ErrorKind) (op : Option Byte) (a : Word) (s : State) : (takeError e op a s).ppu = s.ppu :=
  rfl
@[simp] theorem takeError_history (e : ErrorKind) (op : Option Byte) (a : Word) (s : State) : (takeError e op a s).history = s.history :=
  rfl
@[simp] theorem takeError_clock (e : ErrorKind) (op : Option Byte) (a : Word) (s : State) : (takeError e op a s).clock = s.clock :=
  rfl
@[simp] theorem takeError_presents (e : ErrorKind) (op : Option Byte) (a : Word) (s : State) : (takeError e op a s).presents = s.presents :=
  rfl
@[simp] theorem takeError_cfg (e : ErrorKind) (op : Option Byte) (a : Word) (s : State) : (takeError e op a s).cfg = s.cfg :=
  rfl

/-! ## `ppuTick` -/

@[simp] theorem ppuTick_regs (n : Nat) (s : State) : (ppuTick n s).regs = s.regs := rfl
@[simp] theorem ppuTick_flags (n : Nat) (s : State) : (ppuTick n s).flags = s.flags := rfl
@[simp] theorem ppuTick_sp (n : Nat) (s : State) : (ppuTick n s).sp = s.sp := rfl
@[simp] theorem ppuTick_pc (n : Nat) (s : State) : (ppuTick n s).pc = s.pc := rfl
@[simp] theorem ppuTick_interruptsEnabled (n : Nat) (s : State) : (ppuTick n s).interruptsEnabled = s.interruptsEnabled :=
  rfl
@[simp] theorem ppuTick_running (n : Nat) (s : State) : (ppuTick n s).running = s.running := rfl
@[simp] theorem ppuTick_bootOverlay (n : Nat) (s : State) : (ppuTick n s).bootOverlay = s.bootOverlay := rfl
@[simp] theorem ppuTick_bootRom (n : Nat) (s : State) : (ppuTick n s).bootRom = s.bootRom := rfl
@[simp] theorem ppuTick_mem (n : Nat) (s : State) : (ppuTick n s).mem = s.mem := rfl
@[simp] theorem ppuTick_history (n : Nat) (s : State) : (ppuTick n s).history = s.history := rfl
@[simp] theorem ppuTick_clock (n : Nat) (s : State) : (ppuTick n s).clock = s.clock := rfl
@[simp] theorem ppuTick_log (n : Nat) (s : State) : (ppuTick n s).log = s.log := rfl
@[simp] theorem ppuTick_cfg (n : Nat) (s : State) : (ppuTick n s).cfg = s.cfg := rfl

/-! ## `reportCost` -/

@[simp] theorem reportCost_regs (c : Nat) (s : State) : (reportCost c s).regs = s.regs := rfl
@[simp] theorem reportCost_flags (c : Nat) (s : State) : (reportCost c s).flags = s.flags := rfl
@[simp] theorem reportCost_sp (c : Nat) (s : State) : (reportCost c s).sp = s.sp := rfl
@[simp] theorem reportCost_pc (c : Nat) (s : State) : (reportCost c s).pc = s.pc := rfl
@[simp] theorem reportCost_interruptsEnabled (c : Nat) (s : State) : (reportCost c s).interruptsEnabled = s.interruptsEnabled :=
  rfl
@[simp] theorem reportCost_running (c : Nat) (s : State) : (reportCost c s).running = s.running := rfl
@[simp] theorem reportCost_bootOverlay (c : Nat) (s : State) : (reportCost c s).bootOverlay = s.bootOverlay := rfl
@[simp] theorem reportCost_bootRom (c : Nat) (s : State) : (reportCost c s).bootRom = s.bootRom := rfl
@[simp] theorem reportCost_mem (c : Nat) (s : State) : (reportCost c s).mem = s.mem := rfl
@[simp] theorem reportCost_history (c : Nat) (s : State) : (reportCost c s).history = s.history := rfl
@[simp] theorem reportCost_log (c : Nat) (s : State) : (reportCost c s).log = s.log := rfl
@[simp] theorem reportCost_cfg (c : Nat) (s : State) : (reportCost c s).cfg = s.cfg := rfl

/-! ## `sampleInterrupt` -/

@[simp] theorem sampleInterrupt_regs (op : Byte) (a : Word) (s : State) : (sampleInterrupt op a s).regs = s.regs :=
  by rw [sampleInterrupt_eq]
@[simp] theorem sampleInterrupt_flags (op : Byte) (a : Word) (s : State) : (sampleInterrupt op a s).flags = s.flags :=
  by rw [sampleInterrupt_eq]
@[simp] theorem sampleInterrupt_sp (op : Byte) (a : Word) (s : State) : (sampleInterrupt op a s).sp = s.sp :=
  by rw [sampleInterrupt_eq]
@[simp] theorem sampleInterrupt_pc (op : Byte) (a : Word) (s : State) : (sampleInterrupt op a s).pc = s.pc :=
  by rw [sampleInterrupt_eq]
@[simp] theorem sampleInterrupt_interruptsEnabled (op : Byte) (a : Word) (s : State) : (sampleInterrupt op a s).interruptsEnabled = s.interruptsEnabled :=
  by rw [sampleInterrupt_eq]
@[simp] theorem sampleInterrupt_running (op : Byte) (a : Word) (s : State) : (sampleInterrupt op a s).running = s.running :=
  by rw [sampleInterrupt_eq]
@[simp] theorem sampleInterrupt_bootOverlay (op : Byte) (a : Word) (s : State) : (sampleInterrupt op a s).bootOverlay = s.bootOverlay :=
  by rw [sampleInterrupt_eq]
@[simp] theorem sampleInterrupt_bootRom (op : Byte) (a : Word) (s : State) : (sampleInterrupt op a s).bootRom = s.bootRom :=
  by rw [sampleInterrupt_eq]
@[simp] theorem sampleInterrupt_mem (op : Byte) (a : Word) (s : State) : (sampleInterrupt op a s).mem = s.mem :=
  by rw [sampleInterrupt_eq]
@[simp] theorem sampleInterrupt_ppu (op : Byte) (a : Word) (s : State) : (sampleInterrupt op a s).ppu = s.ppu :=
  by rw [sampleInterrupt_eq]
@[simp] theorem sampleInterrupt_history (op : Byte) (a : Word) (s : State) : (sampleInterrupt op a s).history = s.history :=
  by rw [sampleInterrupt_eq]
@[simp] theorem sampleInterrupt_clock (op : Byte) (a : Word) (s : State) : (sampleInterrupt op a s).clock = s.clock :=
  by rw [sampleInterrupt_eq]
@[simp] theorem sampleInterrupt_presents (op : Byte) (a : Word) (s : State) : (sampleInterrupt op a s).presents = s.presents :=
  by rw [sampleInterrupt_eq]
@[simp] theorem sampleInterrupt_cfg (op : Byte) (a : Word) (s : State) : (sampleInterrupt op a s).cfg = s.cfg :=
  by rw [sampleInterrupt_eq]

/-! ## `leaveBoot` -/

@[simp] theorem leaveBoot_regs (s : State) : (leaveBoot s).regs = s.regs := by unfold leaveBoot; split <;> rfl
@[simp] theorem leaveBoot_flags (s : State) : (leaveBoot s).flags = s.flags := by unfold leaveBoot; split <;> rfl
@[simp] theorem leaveBoot_sp (s : State) : (leaveBoot s).sp = s.sp := by unfold leaveBoot; split <;> rfl
@[simp] theorem leaveBoot_pc (s : State) : (leaveBoot s).pc = s.pc := by unfold leaveBoot; split <;> rfl
@[simp] theorem leaveBoot_interruptsEnabled (s : State) : (leaveBoot s).interruptsEnabled = s.interruptsEnabled :=
  by unfold leaveBoot; split <;> rfl
@[simp] theorem leaveBoot_running (s : State) : (leaveBoot s).running = s.running :=
  by unfold leaveBoot; split <;> rfl
@[simp] theorem leaveBoot_bootRom (s : State) : (leaveBoot s).bootRom = s.bootRom :=
  by unfold leaveBoot; split <;> rfl
@[simp] theorem leaveBoot_mem (s : State) : (leaveBoot s).mem = s.mem := by unfold leaveBoot; split <;> rfl
@[simp] theorem leaveBoot_ppu (s : State) : (leaveBoot s).ppu = s.ppu := by unfold leaveBoot; split <;> rfl
@[simp] theorem leaveBoot_history (s : State) : (leaveBoot s).history = s.history :=
  by unfold leaveBoot; split <;> rfl
@[simp] theorem leaveBoot_clock (s : State) : (leaveBoot s).clock = s.clock := by unfold leaveBoot; split <;> rfl
@[simp] theorem leaveBoot_log (s : State) : (leaveBoot s).log = s.log := by unfold leaveBoot; split <;> rfl
@[simp] theorem leaveBoot_presents (s : State) : (leaveBoot s).presents = s.presents :=
  by unfold leaveBoot; split <;> rfl
@[simp] theorem leaveBoot_cfg (s : State) : (leaveBoot s).cfg = s.cfg := by unfold leaveBoot; split <;> rfl

/-! ## The fields an update does change -/

@[simp] theorem State.setFlags_flags (s : State) (f : Flags) : (s.setFlags f).flags = f := rfl
@[simp] theorem State.setSp_sp (s : State) (a : Word) : (s.setSp a).sp = a := rfl
@[simp] theorem State.setPc_pc (s : State) (a : Word) : (s.setPc a).pc = a := rfl
@[simp] theorem State.setReg16_SP_sp (s : State) (v : Word) : (s.setReg16 .SP v).sp = v := rfl
@[simp] theorem State.setReg16_SP_regs (s : State) (v : Word) : (s.setReg16 .SP v).regs = s.regs := rfl
@[simp] theorem State.setReg16_pair_sp (s : State) (p : Pair) (v : Word) : (s.setReg16 (.pair p) v).sp = s.sp := by
  cases p <;> rfl
@[simp] theorem State.setStackReg_pair_flags (s : State) (p : Pair) (v : Word) :
    (s.setStackReg (.pair p) v).flags = s.flags := by
  cases p <;> rfl
@[simp] theorem State.setStackReg_AF_flags (s : State) (v : Word) :
    (s.setStackReg .AF v).flags = Flags.unpack (loByte v) := rfl
@[simp] theorem takeError_log (e : ErrorKind) (op : Option Byte) (a : Word) (s : State) :
    (takeError e op a s).log = s.log ++ [⟨e, op, a, s.history⟩] := rfl
@[simp] theorem ppuTick_ppu (n : Nat) (s : State) : (ppuTick n s).ppu = (s.ppu.tick s.cfg.shade s.mem n).1 := rfl
@[simp] theorem ppuTick_presents (n : Nat) (s : State) :
    (ppuTick n s).presents = s.presents ++ (s.ppu.tick s.cfg.shade s.mem n).2 := rfl
@[simp] theorem reportCost_ppu (c : Nat) (s : State) :
    (reportCost c s).ppu = (s.ppu.tick s.cfg.shade s.mem (s.cfg.tickScale * c)).1 := rfl
@[simp] theorem reportCost_presents (c : Nat) (s : State) :
    (reportCost c s).presents = s.presents ++ (s.ppu.tick s.cfg.shade s.mem (s.cfg.tickScale * c)).2 := rfl
@[simp] theorem reportCost_clock (c : Nat) (s : State) : (reportCost c s).clock = s.clock + c := rfl
@[simp] theorem leaveBoot_bootOverlay (s : State) :
    (leaveBoot s).bootOverlay = if s.pc = 0x0100#16 then false else s.bootOverlay := by
  unfold leaveBoot; split <;> rfl

/-! ## The accessors after an update -/

theorem State.reg_congr {s t : State} (h : t.regs = s.regs) (r : Reg8) : t.reg r = s.reg r := by
  cases r <;> simp [State.reg, h]

theorem State.pair_congr {s t : State} (h : t.regs = s.regs) (p : Pair) : t.pair p = s.pair p := by
  simp only [State.pair, State.reg_congr h]

theorem State.unmappedAt_congr {s t : State} (h : t.cfg = s.cfg) (a : Word) : t.unmappedAt a = s.unmappedAt a := by
  simp only [State.unmappedAt, h]

/-- A read of a byte depends on these five fields alone. -/
theorem State.peek_congr {s t : State} (ho : t.bootOverlay = s.bootOverlay) (hb : t.bootRom = s.bootRom)
    (hp : t.ppu = s.ppu) (hc : t.cfg = s.cfg) (hm : t.mem = s.mem) (a : Word) : t.peek a = s.peek a := by
  simp only [State.peek, ho, hb, hp, hc, hm]

/-- A register after a write of a register. -/
theorem State.reg_setReg (s : State) (r q : Reg8) (v : Byte) :
    (s.setReg r v).reg q = if q = r then v else s.reg q := by
  cases r <;> cases q <;> rfl

@[simp] theorem State.reg_setReg_same (s : State) (r : Reg8) (v : Byte) : (s.setReg r v).reg r = v := by
  cases r <;> rfl

@[simp] theorem loByte_wordOf (hi lo : Byte) : loByte (wordOf hi lo) = lo := by
  apply BitVec.eq_of_getLsbD_eq
  intro i h
  simp only [loByte, wordOf, BitVec.getLsbD_extractLsb', BitVec.getLsbD_append]
  simp [h]

@[simp] theorem hiByte_wordOf (hi lo : Byte) : hiByte (wordOf hi lo) = hi := by
  apply BitVec.eq_of_getLsbD_eq
  intro i h
  simp only [hiByte, wordOf, BitVec.getLsbD_extractLsb', BitVec.getLsbD_append]
  simp [h]

@[simp] theorem wordOf_hiByte_loByte (w : Word) : wordOf (hiByte w) (loByte w) = w := by
  apply BitVec.eq_of_getLsbD_eq
  intro i h
  simp only [hiByte, loByte, wordOf, BitVec.getLsbD_append, BitVec.getLsbD_extractLsb']
  by_cases h8 : i < 8
  · simp [h8]
  · have e : 8 + (i - 8) = i := by omega
    have d : i - 8 < 8 := by omega
    simp [h8, e, d]

/-- A pair holds what was written to it (R21). -/
@[simp] theorem State.pair_setPair_same (s : State) (p : Pair) (v : Word) : (s.setPair p v).pair p = v := by
  cases p <;> exact wordOf_hiByte_loByte v

@[simp] theorem State.setReg_peek (s : State) (r : Reg8) (v : Byte) (b : Word) : (s.setReg r v).peek b = s.peek b :=
  State.peek_congr (by simp) (by simp) (by simp) (by simp) (by simp) b
@[simp] theorem State.setFlags_reg (s : State) (f : Flags) (q : Reg8) : (s.setFlags f).reg q = s.reg q :=
  State.reg_congr (by simp) q
@[simp] theorem State.setFlags_pair (s : State) (f : Flags) (q : Pair) : (s.setFlags f).pair q = s.pair q :=
  State.pair_congr (by simp) q
@[simp] theorem State.setFlags_peek (s : State) (f : Flags) (b : Word) : (s.setFlags f).peek b = s.peek b :=
  State.peek_congr (by simp) (by simp) (by simp) (by simp) (by simp) b
@[simp] theorem State.setSp_reg (s : State) (a : Word) (q : Reg8) : (s.setSp a).reg q = s.reg q :=
  State.reg_congr (by simp) q
@[simp] theorem State.setSp_pair (s : State) (a : Word) (q : Pair) : (s.setSp a).pair q = s.pair q :=
  State.pair_congr (by simp) q
@[simp] theorem State.setSp_peek (s : State) (a : Word) (b : Word) : (s.setSp a).peek b = s.peek b :=
  State.peek_congr (by simp) (by simp) (by simp) (by simp) (by simp) b
@[simp] theorem State.setPc_reg (s : State) (a : Word) (q : Reg8) : (s.setPc a).reg q = s.reg q :=
  State.reg_congr (by simp) q
@[simp] theorem State.setPc_pair (s : State) (a : Word) (q : Pair) : (s.setPc a).pair q = s.pair q :=
  State.pair_congr (by simp) q
@[simp] theorem State.setPc_peek (s : State) (a : Word) (b : Word) : (s.setPc a).peek b = s.peek b :=
  State.peek_congr (by simp) (by simp) (by simp) (by simp) (by simp) b
@[simp] theorem State.setPair_peek (s : State) (p : Pair) (v : Word) (b : Word) : (s.setPair p v).peek b = s.peek b :=
  State.peek_congr (by simp) (by simp) (by simp) (by simp) (by simp) b
@[simp] theorem State.setReg16_peek (s : State) (r : Reg16) (v : Word) (b : Word) : (s.setReg16 r v).peek b = s.peek b :=
  State.peek_congr (by simp) (by simp) (by simp) (by simp) (by simp) b
@[simp] theorem State.setStackReg_peek (s : State) (r : StackReg) (v : Word) (b : Word) : (s.setStackReg r v).peek b = s.peek b :=
  State.peek_congr (by simp) (by simp) (by simp) (by simp) (by simp) b
@[simp] theorem State.record_reg (s : State) (a : Word) (op : Byte) (q : Reg8) : (s.record a op).reg q = s.reg q :=
  State.reg_congr (by simp) q
@[simp] theorem State.record_pair (s : State) (a : Word) (op : Byte) (q : Pair) : (s.record a op).pair q = s.pair q :=
  State.pair_congr (by simp) q
@[simp] theorem State.record_peek (s : State) (a : Word) (op : Byte) (b : Word) : (s.record a op).peek b = s.peek b :=
  State.peek_congr (by simp) (by simp) (by simp) (by simp) (by simp) b
@[simp] theorem takeError_reg (e : ErrorKind) (op : Option Byte) (a : Word) (s : State) (q : Reg8) : (takeError e op a s).reg q = s.reg q :=
  State.reg_congr (by simp) q
@[simp] theorem takeError_pair (e : ErrorKind) (op : Option Byte) (a : Word) (s : State) (q : Pair) : (takeError e op a s).pair q = s.pair q :=
  State.pair_congr (by simp) q
@[simp] theorem takeError_peek (e : ErrorKind) (op : Option Byte) (a : Word) (s : State) (b : Word) : (takeError e op a s).peek b = s.peek b :=
  State.peek_congr (by simp) (by simp) (by simp) (by simp) (by simp) b
@[simp] theorem ppuTick_reg (n : Nat) (s : State) (q : Reg8) : (ppuTick n s).reg q = s.reg q :=
  State.reg_congr (by simp) q
@[simp] theorem ppuTick_pair (n : Nat) (s : State) (q : Pair) : (ppuTick n s).pair q = s.pair q :=
  State.pair_congr (by simp) q
@[simp] theorem reportCost_reg (c : Nat) (s : State) (q : Reg8) : (reportCost c s).reg q = s.reg q :=
  State.reg_congr (by simp) q
@[simp] theorem reportCost_pair (c : Nat) (s : State) (q : Pair) : (reportCost c s).pair q = s.pair q :=
  State.pair_congr (by simp) q
@[simp] theorem sampleInterrupt_reg (op : Byte) (a : Word) (s : State) (q : Reg8) : (sampleInterrupt op a s).reg q = s.reg q :=
  State.reg_congr (by simp) q
@[simp] theorem sampleInterrupt_pair (op : Byte) (a : Word) (s : State) (q : Pair) : (sampleInterrupt op a s).pair q = s.pair q :=
  State.pair_congr (by simp) q
@[simp] theorem sampleInterrupt_peek (op : Byte) (a : Word) (s : State) (b : Word) : (sampleInterrupt op a s).peek b = s.peek b :=
  State.peek_congr (by simp) (by simp) (by simp) (by simp) (by simp) b
@[simp] theorem leaveBoot_reg (s : State) (q : Reg8) : (leaveBoot s).reg q = s.reg q :=
  State.reg_congr (by simp) q
@[simp] theorem leaveBoot_pair (s : State) (q : Pair) : (leaveBoot s).pair q = s.pair q :=
  State.pair_congr (by simp) q
@[simp] theorem State.poke_reg (s : State) (a : Word) (v : Byte) (q : Reg8) : (s.poke a v).reg q = s.reg q :=
  State.reg_congr (by simp) q
@[simp] theorem State.poke_pair (s : State) (a : Word) (v : Byte) (q : Pair) : (s.poke a v).pair q = s.pair q :=
  State.pair_congr (by simp) q
@[simp] theorem State.setReg_unmappedAt (s : State) (r : Reg8) (v : Byte) (b : Word) : (s.setReg r v).unmappedAt b = s.unmappedAt b :=
  State.unmappedAt_congr (by simp) b
@[simp] theorem State.setFlags_unmappedAt (s : State) (f : Flags) (b : Word) : (s.setFlags f).unmappedAt b = s.unmappedAt b :=
  State.unmappedAt_congr (by simp) b
@[simp] theorem State.setSp_unmappedAt (s : State) (a : Word) (b : Word) : (s.setSp a).unmappedAt b = s.unmappedAt b :=
  State.unmappedAt_congr (by simp) b
@[simp] theorem State.setPc_unmappedAt (s : State) (a : Word) (b : Word) : (s.setPc a).unmappedAt b = s.unmappedAt b :=
  State.unmappedAt_congr (by simp) b
@[simp] theorem State.setPair_unmappedAt (s : State) (p : Pair) (v : Word) (b : Word) : (s.setPair p v).unmappedAt b = s.unmappedAt b :=
  State.unmappedAt_congr (by simp) b
@[simp] theorem State.setReg16_unmappedAt (s : State) (r : Reg16) (v : Word) (b : Word) : (s.setReg16 r v).unmappedAt b = s.unmappedAt b :=
  State.unmappedAt_congr (by simp) b
@[simp] theorem State.setStackReg_unmappedAt (s : State) (r : StackReg) (v : Word) (b : Word) : (s.setStackReg r v).unmappedAt b = s.unmappedAt b :=
  State.unmappedAt_congr (by simp) b
@[simp] theorem State.poke_unmappedAt (s : State) (a : Word) (v : Byte) (b : Word) : (s.poke a v).unmappedAt b = s.unmappedAt b :=
  State.unmappedAt_congr (by simp) b
@[simp] theorem State.record_unmappedAt (s : State) (a : Word) (op : Byte) (b : Word) : (s.record a op).unmappedAt b = s.unmappedAt b :=
  State.unmappedAt_congr (by simp) b
@[simp] theorem takeError_unmappedAt (e : ErrorKind) (op : Option Byte) (a : Word) (s : State) (b : Word) : (takeError e op a s).unmappedAt b = s.unmappedAt b :=
  State.unmappedAt_congr (by simp) b
@[simp] theorem ppuTick_unmappedAt (n : Nat) (s : State) (b : Word) : (ppuTick n s).unmappedAt b = s.unmappedAt b :=
  State.unmappedAt_congr (by simp) b
@[simp] theorem reportCost_unmappedAt (c : Nat) (s : State) (b : Word) : (reportCost c s).unmappedAt b = s.unmappedAt b :=
  State.unmappedAt_congr (by simp) b
@[simp] theorem sampleInterrupt_unmappedAt (op : Byte) (a : Word) (s : State) (b : Word) : (sampleInterrupt op a s).unmappedAt b = s.unmappedAt b :=
  State.unmappedAt_congr (by simp) b
@[simp] theorem leaveBoot_unmappedAt (s : State) (b : Word) : (leaveBoot s).unmappedAt b = s.unmappedAt b :=
  State.unmappedAt_congr (by simp) b

end Sys2Proof.Machine
end

