-- ==== Sys2Proof/Laws/Exec.lean ====
section
/-! SUPPORT. What the operations that may raise do on a state: the primitives, one lemma per outcome; fetching, the stack and the
operand forms. Later proofs cite these instead of unfolding an operation. -/

namespace Sys2Proof.Machine

/-! ## Sequencing -/

@[simp] theorem Exec.pure_apply {α : Type} (v : α) (s : State) : (pure v : Exec α) s = .ok v s := rfl

@[simp] theorem reads_apply {α : Type} (f : State → α) (s : State) : reads f s = .ok (f s) s := rfl

@[simp] theorem updates_apply (f : State → State) (s : State) : updates f s = .ok () (f s) := rfl

@[simp] theorem raise_apply {α : Type} (e : ErrorKind) (s : State) : (raise e : Exec α) s = .error e s := rfl

theorem Exec.bind_apply {α β : Type} (x : Exec α) (f : α → Exec β) (s : State) :
    (x >>= f) s = match x s with
      | .ok v t => f v t
      | .error e t => .error e t := by
  show EStateM.bind x f s = _
  unfold EStateM.bind
  cases x s <;> rfl

theorem Exec.map_apply {α β : Type} (g : α → β) (x : Exec α) (s : State) :
    (g <$> x) s = match x s with
      | .ok v t => .ok (g v) t
      | .error e t => .error e t := by
  show EStateM.map g x s = _
  unfold EStateM.map
  cases x s <;> rfl

/-- A sequence whose first part answers. -/
theorem Exec.bind_ok {α β : Type} {x : Exec α} {f : α → Exec β} {s t : State} {v : α} (h : x s = .ok v t) :
    (x >>= f) s = f v t := by
  rw [Exec.bind_apply, h]

/-- A sequence whose first part raises. -/
theorem Exec.bind_error {α β : Type} {x : Exec α} {f : α → Exec β} {s t : State} {e : ErrorKind}
    (h : x s = .error e t) : (x >>= f) s = .error e t := by
  rw [Exec.bind_apply, h]

/-! ## The bus -/

theorem readByte_ok {s : State} {a : Word} (h : s.unmappedAt a = false) : readByte a s = .ok (s.peek a) s := by
  simp [readByte, h]

theorem readByte_error {s : State} {a : Word} (h : s.unmappedAt a = true) :
    readByte a s = .error .memoryAccess s := by
  simp [readByte, h]

theorem writeByte_ok {s : State} {a : Word} (v : Byte) (h : s.unmappedAt a = false) :
    writeByte a v s = .ok () (s.poke a v) := by
  simp [writeByte, h]

theorem writeByte_error {s : State} {a : Word} (v : Byte) (h : s.unmappedAt a = true) :
    writeByte a v s = .error .memoryAccess s := by
  simp [writeByte, h]

/-- A word read of two mapped bytes (R64). -/
theorem readWord_ok {s : State} {a : Word} (h₀ : s.unmappedAt a = false) (h₁ : s.unmappedAt (a + 1) = false) :
    readWord a s = .ok (wordOf (s.peek (a + 1)) (s.peek a)) s := by
  unfold readWord
  rw [Exec.bind_ok (readByte_ok h₀), Exec.bind_ok (readByte_ok h₁)]
  rfl

/-- A word read with an unmapped byte raises and changes nothing (R507). -/
theorem readWord_error {s : State} {a : Word} (h : (s.unmappedAt a || s.unmappedAt (a + 1)) = true) :
    readWord a s = .error .memoryAccess s := by
  unfold readWord
  cases h₀ : s.unmappedAt a
  · rw [h₀, Bool.false_or] at h
    rw [Exec.bind_ok (readByte_ok h₀), Exec.bind_error (readByte_error h)]
  · rw [Exec.bind_error (readByte_error h₀)]

/-- A word write to two mapped bytes (R65). -/
theorem writeWord_ok {s : State} {a : Word} (v : Word) (h₀ : s.unmappedAt a = false)
    (h₁ : s.unmappedAt (a + 1) = false) :
    writeWord a v s = .ok () ((s.poke a (loByte v)).poke (a + 1) (hiByte v)) := by
  unfold writeWord
  rw [Exec.bind_ok (writeByte_ok _ h₀)]
  exact writeByte_ok _ (by simpa using h₁)

/-- A word write whose low byte is unmapped stores nothing (R507). -/
theorem writeWord_error_low {s : State} {a : Word} (v : Word) (h : s.unmappedAt a = true) :
    writeWord a v s = .error .memoryAccess s := by
  unfold writeWord
  rw [Exec.bind_error (writeByte_error _ h)]

/-- A word write whose high byte is unmapped has stored the low byte (R65, R507). -/
theorem writeWord_error_high {s : State} {a : Word} (v : Word) (h₀ : s.unmappedAt a = false)
    (h₁ : s.unmappedAt (a + 1) = true) : writeWord a v s = .error .memoryAccess (s.poke a (loByte v)) := by
  unfold writeWord
  rw [Exec.bind_ok (writeByte_ok _ h₀)]
  exact writeByte_error _ (by simpa using h₁)

/-! ## Fetching -/

theorem fetch8_ok {s : State} (h : s.unmappedAt s.pc = false) :
    fetch8 s = .ok (s.peek s.pc) (s.setPc (s.pc + 1)) := by
  simp [fetch8, Exec.bind_apply, Exec.map_apply, readByte_ok h]

/-- A fetch that raises has not advanced `pc` (R101). -/
theorem fetch8_error {s : State} (h : s.unmappedAt s.pc = true) : fetch8 s = .error .memoryAccess s := by
  simp [fetch8, Exec.bind_apply, readByte_error h]

theorem fetch16_ok {s : State} (h₀ : s.unmappedAt s.pc = false) (h₁ : s.unmappedAt (s.pc + 1) = false) :
    fetch16 s = .ok (wordOf (s.peek (s.pc + 1)) (s.peek s.pc)) (s.setPc (s.pc + 2)) := by
  unfold fetch16
  rw [Exec.bind_ok (fetch8_ok h₀), Exec.bind_ok (fetch8_ok (by simpa using h₁))]
  have : s.pc + 1#16 + 1#16 = s.pc + 2#16 := by rw [BitVec.add_assoc]; rfl
  simp [State.setPc, this, State.peek]

/-! ## The stack -/

/-- A push onto two mapped bytes (R234). -/
theorem pushWord_ok {s : State} (v : Word) (h₀ : s.unmappedAt (s.sp - 2) = false)
    (h₁ : s.unmappedAt (s.sp - 2 + 1) = false) :
    pushWord v s =
      .ok () (((s.setSp (s.sp - 2)).poke (s.sp - 2) (loByte v)).poke (s.sp - 2 + 1) (hiByte v)) := by
  simp only [pushWord, Exec.bind_apply, reads_apply, updates_apply]
  exact writeWord_ok v (by simpa using h₀) (by simpa using h₁)

/-- A push that raises has moved `sp`; if its high byte raises the low byte has been stored (R234). -/
theorem pushWord_error {s : State} (v : Word)
    (h : (s.unmappedAt (s.sp - 2) || s.unmappedAt (s.sp - 2 + 1)) = true) :
    pushWord v s = .error .memoryAccess
      (if s.unmappedAt (s.sp - 2) then s.setSp (s.sp - 2) else (s.setSp (s.sp - 2)).poke (s.sp - 2) (loByte v)) := by
  simp only [pushWord, Exec.bind_apply, reads_apply, updates_apply]
  cases h₀ : s.unmappedAt (s.sp - 2)
  · rw [h₀, Bool.false_or] at h
    exact writeWord_error_high v (by simpa using h₀) (by simpa using h)
  · exact writeWord_error_low v (by simpa using h₀)

/-- A pop from two mapped bytes (R235). -/
theorem popWord_ok {s : State} (h₀ : s.unmappedAt s.sp = false) (h₁ : s.unmappedAt (s.sp + 1) = false) :
    popWord s = .ok (wordOf (s.peek (s.sp + 1)) (s.peek s.sp)) (s.setSp (s.sp + 2)) := by
  simp only [popWord, Exec.bind_apply, reads_apply, readWord_ok h₀ h₁, updates_apply, Exec.pure_apply]

/-- A pop that raises changes nothing (R235). -/
theorem popWord_error {s : State} (h : (s.unmappedAt s.sp || s.unmappedAt (s.sp + 1)) = true) :
    popWord s = .error .memoryAccess s := by
  simp only [popWord, Exec.bind_apply, reads_apply, readWord_error h]

/-! ## Operands -/

theorem readOperand_ok {s : State} {o : Operand8} (h : s.operandUnmapped o = false) :
    readOperand o s = .ok (s.operand o) s := by
  cases o with
  | reg r => rfl
  | mHL => exact readByte_ok h

theorem readOperand_error {s : State} {o : Operand8} (h : s.operandUnmapped o = true) :
    readOperand o s = .error .memoryAccess s := by
  cases o with
  | reg r => cases h
  | mHL => exact readByte_error h

theorem writeOperand_ok {s : State} {o : Operand8} (v : Byte) (h : s.operandUnmapped o = false) :
    writeOperand o v s = .ok () (s.putOperand o v) := by
  cases o with
  | reg r => rfl
  | mHL => exact writeByte_ok v h

@[simp] theorem State.setFlags_operandUnmapped (s : State) (f : Flags) (o : Operand8) :
    (s.setFlags f).operandUnmapped o = s.operandUnmapped o := by
  cases o <;> simp [State.operandUnmapped]

/-- Read, modify, write back, with the flags set in between (R330). -/
theorem modifyOperand_ok {s : State} {o : Operand8} (f : Flags → Byte → Byte × Flags)
    (h : s.operandUnmapped o = false) :
    modifyOperand o f s =
      .ok () ((s.setFlags (f s.flags (s.operand o)).2).putOperand o (f s.flags (s.operand o)).1) := by
  simp only [modifyOperand, Exec.bind_apply, readOperand_ok h, reads_apply, updates_apply]
  exact writeOperand_ok _ (by simpa using h)

theorem modifyOperand_error {s : State} {o : Operand8} (f : Flags → Byte → Byte × Flags)
    (h : s.operandUnmapped o = true) : modifyOperand o f s = .error .memoryAccess s := by
  simp only [modifyOperand, Exec.bind_apply, readOperand_error h]

theorem readSource_ok {s : State} {src : Source} (h : s.sourceUnmapped src = false) :
    readSource src s = .ok (s.source src) s := by
  cases src with
  | op o => exact readOperand_ok h
  | imm n => rfl

theorem readSource_error {s : State} {src : Source} (h : s.sourceUnmapped src = true) :
    readSource src s = .error .memoryAccess s := by
  cases src with
  | op o => exact readOperand_error h
  | imm n => cases h

end Sys2Proof.Machine
end

