-- ==== Sys2Proof/Laws/Memory.lean ====
section
/-! SUPPORT. The laws of memory: a read after a write, and the canonical form, which every memory operation keeps. -/

namespace Sys2Proof.Machine

/-! ## Reading after writing -/

theorem Memory.read_cons (m : Memory) (a b : Nat) (v : Byte) (h : ∀ c ∈ m, a < c.1) :
    (Memory.cons a v m).read b = if b = a then v else m.read b := by
  have none : ∀ l : Memory, (∀ c ∈ l, a < c.1) → l.read a = unlistedByte := by
    intro l
    induction l with
    | nil => intro _; rfl
    | cons c l ih =>
      intro hl
      have hc := hl c (by simp)
      have : c.1 ≠ a := by omega
      simp only [Memory.read, this, if_false]
      exact ih fun d hd => hl d (by simp [hd])
  unfold Memory.cons
  split
  · rename_i hv
    split
    · rename_i hb; subst hb; rw [none m h, hv]
    · rfl
  · simp only [Memory.read]
    by_cases hb : a = b
    · subst hb; simp
    · have : b ≠ a := fun e => hb e.symm
      simp [hb, this]

/-- The canonical form of the tail, and the addresses of the tail lie above the head's. -/
theorem Memory.wf_tail {c : Host.Cell} {m : Memory} (h : Memory.wf (c :: m)) :
    Memory.wf m ∧ (∀ d ∈ m, c.1 < d.1) ∧ c.2 ≠ unlistedByte := by
  obtain ⟨hp, hv⟩ := h
  rw [List.pairwise_cons] at hp
  exact ⟨⟨hp.2, fun d hd => hv d (by simp [hd])⟩, hp.1, hv c (by simp)⟩

theorem Memory.wf_nil : Memory.wf [] := ⟨List.Pairwise.nil, by simp⟩

/-- A cell in front of a canonical memory whose addresses all lie above it. -/
theorem Memory.wf_cons {m : Memory} {a : Nat} (v : Byte) (h : m.wf) (ha : ∀ c ∈ m, a < c.1) :
    (Memory.cons a v m).wf := by
  unfold Memory.cons
  split
  · exact h
  · rename_i hv
    refine ⟨List.pairwise_cons.2 ⟨ha, h.1⟩, ?_⟩
    intro c hc
    rcases List.mem_cons.1 hc with rfl | hc
    · exact hv
    · exact h.2 c hc

theorem Memory.mem_cons {m : Memory} {a : Nat} {v : Byte} {c : Host.Cell} (h : c ∈ Memory.cons a v m) :
    c = (a, v) ∨ c ∈ m := by
  unfold Memory.cons at h
  split at h
  · exact .inr h
  · exact List.mem_cons.1 h

/-- A cell of a memory after a write is the written one or an old one. -/
theorem Memory.mem_write {m : Memory} {a : Nat} {v : Byte} {c : Host.Cell} (h : c ∈ m.write a v) :
    c = (a, v) ∨ c ∈ m := by
  induction m with
  | nil => exact Memory.mem_cons h
  | cons d m ih =>
    simp only [Memory.write] at h
    split at h
    · exact Memory.mem_cons h
    · split at h
      · rcases Memory.mem_cons h with rfl | h
        · exact .inl rfl
        · exact .inr (by simp [h])
      · rcases List.mem_cons.1 h with rfl | h
        · exact .inr (by simp)
        · rcases ih h with rfl | h
          · exact .inl rfl
          · exact .inr (by simp [h])

/-- A write keeps the canonical form. -/
theorem Memory.wf_write {m : Memory} (a : Nat) (v : Byte) (h : m.wf) : (m.write a v).wf := by
  induction m with
  | nil => exact Memory.wf_cons v Memory.wf_nil (by simp)
  | cons d m ih =>
    obtain ⟨ht, hlt, hd⟩ := Memory.wf_tail h
    simp only [Memory.write]
    split
    · rename_i hlt'
      refine Memory.wf_cons v h fun c hc => ?_
      rcases List.mem_cons.1 hc with rfl | hc
      · exact hlt'
      · exact Nat.lt_trans hlt' (hlt c hc)
    · split
      · rename_i heq
        exact Memory.wf_cons v ht fun c hc => heq ▸ hlt c hc
      · have hlt' : d.1 < a := by omega
        refine ⟨List.pairwise_cons.2 ⟨?_, (ih ht).1⟩, ?_⟩
        · intro c hc
          rcases Memory.mem_write hc with rfl | hc
          · exact hlt'
          · exact hlt c hc
        · intro c hc
          rcases List.mem_cons.1 hc with rfl | hc
          · exact hd
          · exact (ih ht).2 c hc

/-- A read after a write, at the same address and at another one. -/
theorem Memory.read_write {m : Memory} (a b : Nat) (v : Byte) (h : m.wf) :
    (m.write a v).read b = if b = a then v else m.read b := by
  induction m with
  | nil => exact Memory.read_cons [] a b v (by simp)
  | cons d m ih =>
    obtain ⟨ht, hlt, _⟩ := Memory.wf_tail h
    simp only [Memory.write]
    split
    · rename_i hlt'
      refine Memory.read_cons _ a b v fun c hc => ?_
      rcases List.mem_cons.1 hc with rfl | hc
      · exact hlt'
      · exact Nat.lt_trans hlt' (hlt c hc)
    · split
      · rename_i heq
        rw [Memory.read_cons m a b v fun c hc => heq ▸ hlt c hc]
        split
        · rfl
        · have : d.1 ≠ b := by omega
          simp [Memory.read, this]
      · simp only [Memory.read]
        rw [ih ht]
        by_cases hb : d.1 = b
        · have : b ≠ a := by omega
          simp [hb, this]
        · simp [hb]

/-- A read at another address than the written one, canonical or not. -/
theorem Memory.read_write_ne (m : Memory) {a b : Nat} (v : Byte) (h : b ≠ a) : (m.write a v).read b = m.read b := by
  have cons (l : Memory) : (Memory.cons a v l).read b = l.read b := by
    unfold Memory.cons
    split
    · rfl
    · simp [Memory.read, Ne.symm h]
  induction m with
  | nil => exact cons []
  | cons d m ih =>
    simp only [Memory.write]
    split
    · exact cons _
    · split
      · rename_i heq
        rw [cons]
        simp [Memory.read, ← heq, Ne.symm h]
      · simp only [Memory.read, ih]

/-- An address without an entry. -/
theorem Memory.read_unlisted {m : Memory} {b : Nat} (h : ∀ c ∈ m, c.1 ≠ b) : m.read b = unlistedByte := by
  induction m with
  | nil => rfl
  | cons c m ih =>
    have : c.1 ≠ b := h c (by simp)
    simp only [Memory.read, this, if_false]
    exact ih fun d hd => h d (by simp [hd])

/-! ## The bus -/

/-- A store below 0x8000 is dropped (R72). -/
@[simp] theorem State.poke_rom {s : State} {a : Word} (v : Byte) (h : a.toNat < 0x8000) : s.poke a v = s := by
  simp [State.poke, h]

/-- The addresses of the PPU's registers lie in the I/O window (R74). -/
theorem ppuRegister_bound {a : Nat} (h : ppuRegister a = true) : 0xFF40 ≤ a ∧ a ≤ 0xFF47 := by
  simp only [ppuRegister, Bool.or_eq_true, beq_iff_eq] at h
  omega

/-- The memory after a store. -/
theorem State.poke_mem (s : State) (a : Word) (v : Byte) :
    (s.poke a v).mem = if a.toNat < 0x8000 ∨ ppuRegister a.toNat = true then s.mem else s.mem.write a.toNat v := by
  unfold State.poke
  by_cases h : a.toNat < 0x8000 <;> by_cases p : ppuRegister a.toNat = true <;> simp [h, p]

/-- The PPU after a store. -/
theorem State.poke_ppu (s : State) (a : Word) (v : Byte) :
    (s.poke a v).ppu = if ppuRegister a.toNat = true then s.ppu.writeReg s.cfg.lcdcBits a.toNat v else s.ppu := by
  unfold State.poke
  by_cases h : a.toNat < 0x8000 <;> by_cases p : ppuRegister a.toNat = true <;> simp [h, p]
  have := ppuRegister_bound p
  omega

/-- Every store keeps the memory's canonical form. -/
theorem State.poke_mem_wf {s : State} (a : Word) (v : Byte) (h : s.mem.wf) : (s.poke a v).mem.wf := by
  rw [State.poke_mem]
  split
  · exact h
  · exact Memory.wf_write _ _ h

/-- A write of one PPU register does not change what the others read. -/
theorem Ppu.readReg_writeReg_ne (p : LcdcBits) (u : Ppu) {a b : Nat} (v : Byte) (ha : ppuRegister a = true)
    (hb : ppuRegister b = true) (h : b ≠ a) : (u.writeReg p a v).readReg p b = u.readReg p b := by
  simp only [ppuRegister, Bool.or_eq_true, beq_iff_eq] at ha hb
  rcases ha with (((rfl | rfl) | rfl) | rfl) | rfl <;> rcases hb with (((rfl | rfl) | rfl) | rfl) | rfl <;>
    first | exact absurd rfl h | rfl

/-- A store leaves every other address as it was. -/
theorem State.peek_poke_ne (s : State) {a b : Word} (v : Byte) (h : b ≠ a) : (s.poke a v).peek b = s.peek b := by
  have hn : b.toNat ≠ a.toNat := fun e => h (BitVec.eq_of_toNat_eq e)
  simp only [State.peek, State.poke_bootOverlay, State.poke_bootRom, State.poke_cfg, State.poke_ppu, State.poke_mem]
  by_cases p : ppuRegister a.toNat = true <;> by_cases q : ppuRegister b.toNat = true <;> simp only [p, q, if_true]
  · rw [Ppu.readReg_writeReg_ne _ _ _ p q hn]
  · simp
  · simp
  · by_cases l : a.toNat < 0x8000
    · simp [l]
    · simp [l, Memory.read_write_ne _ _ hn]

/-! ## The canonical form of the other memory operations -/

theorem wf_cellsOf (bytes : List Byte) (n : Nat) :
    Memory.wf (((bytes.zipIdx n).filter (fun c => c.1 != unlistedByte)).map (fun c => (c.2, c.1))) ∧
      ∀ c ∈ ((bytes.zipIdx n).filter (fun c => c.1 != unlistedByte)).map (fun c => (c.2, c.1)), n ≤ c.1 := by
  induction bytes generalizing n with
  | nil => exact ⟨Memory.wf_nil, by simp⟩
  | cons v bytes ih =>
    obtain ⟨hw, hle⟩ := ih (n + 1)
    rw [List.zipIdx_cons, List.filter_cons]
    split
    · rename_i hv
      rw [List.map_cons]
      constructor
      · refine ⟨List.pairwise_cons.2 ⟨fun c hc => hle c hc, hw.1⟩, ?_⟩
        intro c hc
        rcases List.mem_cons.1 hc with rfl | hc
        · simpa using hv
        · exact hw.2 c hc
      · intro c hc
        rcases List.mem_cons.1 hc with rfl | hc
        · exact Nat.le_refl n
        · exact Nat.le_of_succ_le (hle c hc)
    · exact ⟨hw, fun c hc => Nat.le_of_succ_le (hle c hc)⟩

theorem read_cells (bytes : List Byte) (n a : Nat) :
    Memory.read (((bytes.zipIdx n).filter (fun c => c.1 != unlistedByte)).map (fun c => (c.2, c.1))) a =
      if n ≤ a then (bytes[a - n]?).getD unlistedByte else unlistedByte := by
  induction bytes generalizing n with
  | nil => simp [Memory.read]
  | cons v bytes ih =>
    have tail (h : n ≠ a) :
        (if n + 1 ≤ a then (bytes[a - (n + 1)]?).getD unlistedByte else unlistedByte) =
          if n ≤ a then ((v :: bytes)[a - n]?).getD unlistedByte else unlistedByte := by
      by_cases hn : n + 1 ≤ a
      · have e : a - n = a - (n + 1) + 1 := by omega
        simp [hn, Nat.le_of_succ_le hn, e]
      · simp [hn, show ¬ n ≤ a by omega]
    rw [List.zipIdx_cons, List.filter_cons]
    by_cases h : n = a
    · subst h
      split
      · simp [Memory.read]
      · rename_i hv
        simp_all
    · split <;> simp only [List.map_cons, Memory.read, h, if_false, ih, tail h]

/-- A loaded byte sequence reads back byte by byte, and as nothing above it. -/
theorem read_cellsOf (bytes : List Byte) (a : Nat) : (cellsOf bytes).read a = (bytes[a]?).getD unlistedByte := by
  simpa [cellsOf] using read_cells bytes 0 a

/-- Planting a byte for the next fetch keeps both memories canonical. -/
theorem plantByte_wf {s : State} (a : Word) (v : Byte) (hm : s.mem.wf) (hb : s.bootRom.wf) :
    (plantByte s a v).mem.wf ∧ (plantByte s a v).bootRom.wf := by
  unfold plantByte
  split
  · exact ⟨hm, Memory.wf_write _ _ hb⟩
  · split
    · exact ⟨hm, hb⟩
    · exact ⟨Memory.wf_write _ _ hm, hb⟩

/-- The memories after reset are canonical. -/
theorem reset_mem_wf : State.reset.mem.wf ∧ State.reset.bootRom.wf := ⟨Memory.wf_nil, Memory.wf_nil⟩

end Sys2Proof.Machine
end

