-- ==== Sys2Proof/Laws/Ppu.lean ====
section
/-! SUPPORT. What the PPU's mode machine keeps: the registers a program writes are written by programs alone. -/

namespace Sys2Proof.Machine

/-- Two states of the PPU with the same four registers and the same number of framebuffer rows. -/
structure Ppu.SameRegs (u v : Ppu) : Prop where
  scrollX : v.scrollX = u.scrollX
  scrollY : v.scrollY = u.scrollY
  lcdc : v.lcdc = u.lcdc
  palette : v.palette = u.palette

theorem Ppu.SameRegs.refl (u : Ppu) : u.SameRegs u := ⟨rfl, rfl, rfl, rfl⟩

theorem Ppu.SameRegs.trans {u v w : Ppu} (h : u.SameRegs v) (k : v.SameRegs w) : u.SameRegs w :=
  ⟨k.scrollX.trans h.scrollX, k.scrollY.trans h.scrollY, k.lcdc.trans h.lcdc, k.palette.trans h.palette⟩

/-- Rendering a scanline changes the framebuffer alone (50_ppu.md R416). -/
theorem renderScanline_eq (sh : Shades) (m : Memory) (u : Ppu) :
    renderScanline sh m u = { u with framebuffer := (renderScanline sh m u).framebuffer } := by
  unfold renderScanline; split <;> rfl

@[simp] theorem renderScanline_mode (sh : Shades) (m : Memory) (u : Ppu) : (renderScanline sh m u).mode = u.mode := by
  rw [renderScanline_eq]

@[simp] theorem renderScanline_counter (sh : Shades) (m : Memory) (u : Ppu) : (renderScanline sh m u).counter = u.counter := by
  rw [renderScanline_eq]

@[simp] theorem renderScanline_line (sh : Shades) (m : Memory) (u : Ppu) : (renderScanline sh m u).line = u.line := by
  rw [renderScanline_eq]

@[simp] theorem renderScanline_scrollX (sh : Shades) (m : Memory) (u : Ppu) : (renderScanline sh m u).scrollX = u.scrollX := by
  rw [renderScanline_eq]

@[simp] theorem renderScanline_scrollY (sh : Shades) (m : Memory) (u : Ppu) : (renderScanline sh m u).scrollY = u.scrollY := by
  rw [renderScanline_eq]

@[simp] theorem renderScanline_lcdc (sh : Shades) (m : Memory) (u : Ppu) : (renderScanline sh m u).lcdc = u.lcdc := by
  rw [renderScanline_eq]

@[simp] theorem renderScanline_palette (sh : Shades) (m : Memory) (u : Ppu) : (renderScanline sh m u).palette = u.palette := by
  rw [renderScanline_eq]

/-- Rendering does not look at the counter. -/
theorem renderScanline_advance (sh : Shades) (m : Memory) (u : Ppu) (n : Nat) :
    renderScanline sh m (u.advance n) = (renderScanline sh m u).advance n := by
  unfold renderScanline Ppu.advance; dsimp only; split <;> rfl

/-- The end of a mode writes no register but `LY` (50_ppu.md R410 to R413). -/
theorem Ppu.endMode_sameRegs (sh : Shades) (m : Memory) (u : Ppu) : u.SameRegs (u.endMode sh m).1 := by
  unfold Ppu.endMode
  split
  · exact ⟨rfl, rfl, rfl, rfl⟩
  · simp only [Ppu.enter]
    rw [renderScanline_eq]
    exact ⟨rfl, rfl, rfl, rfl⟩
  · simp only; split <;> exact ⟨rfl, rfl, rfl, rfl⟩
  · simp only; split <;> exact ⟨rfl, rfl, rfl, rfl⟩

theorem Ppu.runModes_sameRegs (sh : Shades) (m : Memory) (fuel : Nat) (u : Ppu) :
    u.SameRegs (Ppu.runModes sh m fuel u).1 := by
  induction fuel generalizing u with
  | zero => exact .refl u
  | succ fuel ih =>
    simp only [Ppu.runModes]
    split
    · exact (u.endMode_sameRegs sh m).trans (ih _)
    · exact .refl u

theorem Ppu.tick_sameRegs (sh : Shades) (m : Memory) (n : Nat) (u : Ppu) : u.SameRegs (u.tick sh m n).1 :=
  Ppu.SameRegs.trans (v := u.advance n) ⟨rfl, rfl, rfl, rfl⟩
    (Ppu.runModes_sameRegs sh m ((u.advance n).counter / 80) (u.advance n))

/-- The PPU registers other than `LY` read alike in two such states. -/
theorem Ppu.SameRegs.readReg {u v : Ppu} (h : u.SameRegs v) (p : LcdcBits) {a : Nat} (ha : a ≠ 0xFF44) :
    v.readReg p a = u.readReg p a := by
  simp only [Ppu.readReg, h.scrollX, h.scrollY, h.lcdc, h.palette, ha, if_false]

/-! ## The mode loop -/

theorem modeLength_ge (mode : PpuMode) : 80 ≤ modeLength mode := by
  cases mode <;> decide

/-- The end of a mode takes its length off the counter and looks at the counter for nothing else. -/
theorem Ppu.endMode_counter (sh : Shades) (m : Memory) (u : Ppu) :
    (u.endMode sh m).1.counter = u.counter - modeLength u.mode := by
  unfold Ppu.endMode
  split
  · rfl
  · simp only [Ppu.enter]
    rw [renderScanline_eq]
    rfl
  · simp only; split <;> rfl
  · simp only; split <;> rfl

/-- A mode whose threshold the counter has reached ends alike with more cycles on the counter (50_ppu.md R414). -/
theorem Ppu.endMode_advance (sh : Shades) (m : Memory) {u : Ppu} (n : Nat) (h : modeLength u.mode ≤ u.counter) :
    (u.advance n).endMode sh m = ((u.endMode sh m).1.advance n, (u.endMode sh m).2) := by
  have hc : (u.advance n).consume = u.consume.advance n := by
    have e : u.counter + n - modeLength u.mode = u.counter - modeLength u.mode + n := by omega
    simp only [Ppu.consume, Ppu.advance, e]
  have hl : (u.consume.advance n).line = u.consume.line := rfl
  have hm : (u.advance n).mode = u.mode := rfl
  unfold Ppu.endMode
  rw [hc, hm]
  dsimp only
  rw [renderScanline_advance, hl]
  split
  · rfl
  · rfl
  · split <;> rfl
  · split <;> rfl

/-- The loop reaches its exit within counter/80 turns, so more turns change nothing (Log 19). -/
theorem Ppu.runModes_fuel (sh : Shades) (m : Memory) {fuel : Nat} {u : Ppu} (h : u.counter / 80 ≤ fuel) :
    Ppu.runModes sh m fuel u = Ppu.runModes sh m (u.counter / 80) u := by
  have aux : ∀ (f g : Nat) (u : Ppu), u.counter / 80 ≤ f → u.counter / 80 ≤ g →
      Ppu.runModes sh m f u = Ppu.runModes sh m g u := by
    intro f
    induction f with
    | zero =>
      intro g u hf hg
      cases g with
      | zero => rfl
      | succ g =>
        have hc : ¬ modeLength u.mode ≤ u.counter := by
          have := modeLength_ge u.mode
          omega
        simp only [Ppu.runModes, hc, if_false]
    | succ f ih =>
      intro g u hf hg
      have hm := modeLength_ge u.mode
      by_cases hc : modeLength u.mode ≤ u.counter
      · have hn := Ppu.endMode_counter sh m u
        cases g with
        | zero => omega
        | succ g =>
          have := ih g (u.endMode sh m).1 (by omega) (by omega)
          simp only [Ppu.runModes, hc, if_true, this]
      · cases g with
        | zero => simp only [Ppu.runModes, hc, if_false]
        | succ g => simp only [Ppu.runModes, hc, if_false]
  exact aux _ _ u h (Nat.le_refl _)

/-- A tick in one equation: below the mode's threshold it counts, else the mode ends and the loop goes on (50_ppu.md R414). -/
theorem Ppu.tick_eq (sh : Shades) (m : Memory) (n : Nat) (u : Ppu) :
    u.tick sh m n =
      if modeLength u.mode ≤ u.counter + n then
        ((((u.advance n).endMode sh m).1.tick sh m 0).1,
          ((u.advance n).endMode sh m).2 ++ (((u.advance n).endMode sh m).1.tick sh m 0).2)
      else (u.advance n, []) := by
  have hm := modeLength_ge u.mode
  have h0 (v : Ppu) : v.tick sh m 0 = Ppu.runModes sh m (v.counter / 80) v := rfl
  have hadv : (u.advance n).counter = u.counter + n := rfl
  have hmode : (u.advance n).mode = u.mode := rfl
  show Ppu.runModes sh m ((u.advance n).counter / 80) (u.advance n) = _
  by_cases hc : modeLength u.mode ≤ u.counter + n
  · obtain ⟨k, hk⟩ : ∃ k, (u.advance n).counter / 80 = k + 1 := ⟨(u.advance n).counter / 80 - 1, by omega⟩
    have hn := Ppu.endMode_counter sh m (u.advance n)
    rw [hadv, hmode] at hn
    rw [hadv] at hk
    rw [hadv, hk]
    simp only [Ppu.runModes, hadv, hmode, hc, if_true, h0]
    rw [Ppu.runModes_fuel sh m (fuel := k) (by omega)]
  · cases hk : (u.advance n).counter / 80 with
    | zero => simp only [Ppu.runModes, hc, if_false]
    | succ k => simp only [Ppu.runModes, hadv, hmode, hc, if_false]

end Sys2Proof.Machine
end

