-- ==== Sys2Proof/Laws/RunLoop.lean ====
section
/-! SUPPORT. The run loop's part of a step: what retiring an instruction does, and the two ways an instruction ends. -/

namespace Sys2Proof

open Sys2Proof.Machine

/-- The `COST` of a row and outcome is that of the first entry for them (60_exceptions.md R503, 70_reset_and_hazards.md R570). -/
theorem costOf_first {p : Params} {row : OpRow} {ch : Charge} {before after : List CostEntry} {e : CostEntry}
    (h : p.costs = before ++ e :: after) (hr : e.row = row) (ht : e.taken = ch.taken)
    (hb : ∀ x ∈ before, ¬ (x.row = row ∧ x.taken = ch.taken)) : costOf p row ch = e.cost := by
  have hf : p.costs.find? (fun e => decide (e.row = row) && decide (e.taken = ch.taken)) = some e := by
    rw [h, List.find?_append, List.find?_eq_none.2 (by simpa using hb)]
    simp [hr, ht]
  rw [costOf, hf]

/-- Without an entry the cost is the charge's default. -/
theorem costOf_default {p : Params} {row : OpRow} {ch : Charge} (h : ∀ x ∈ p.costs, ¬ (x.row = row ∧ x.taken = ch.taken)) :
    costOf p row ch = ch.base := by
  rw [costOf, List.find?_eq_none.2 (by simpa using h)]

/-- The state of a stopped machine is final (60_exceptions.md R516). -/
theorem Machine.Session.event_of_not_running {s : State} (e : SessionEvent) (h : s.running = false) : Session.event e s = .next s := by
  simp [Session.event, h]

/-- Retiring an instruction is what `Retires` says (60_exceptions.md R503, R513). -/
theorem retires_retire {i : Instr} {row : OpRow} (a : Word) (ch : Charge) (u : State) (hr : i.row = row)
    (ho : i.opcode = opcodeByte row) : Retires i a ch u (retire row a ch u) := by
  subst hr
  have hlog : (retire i.row a ch u).log = u.log ++
      if u.interruptsEnabled && u.unmappedAt 0xFF0F#16 then [⟨.memoryAccess, some i.opcode, a, u.history⟩] else [] := by
    rw [ho]
    simp only [retire, sampleInterrupt_eq]
    simp
  constructor
  case log => exact hlog
  all_goals simp [retire]

/-- The state an answer or an error stands with. -/
def Machine.stateOf {α : Type} : EStateM.Result ErrorKind State α → State
  | .ok _ t => t
  | .error _ t => t

@[simp] theorem Machine.stateOf_ok {α : Type} (v : α) (t : State) : stateOf (.ok v t) = t := rfl

@[simp] theorem Machine.stateOf_error {α : Type} (e : ErrorKind) (t : State) :
    stateOf (.error e t : EStateM.Result ErrorKind State α) = t := rfl

@[simp] theorem Machine.stateOf_ite {α : Type} (c : Prop) [Decidable c] (a b : EStateM.Result ErrorKind State α) :
    stateOf (if c then a else b) = if c then stateOf a else stateOf b := apply_ite stateOf c a b

/-- The state an operation leaves, whether it answers or raises. -/
def Machine.Exec.after {α : Type} (x : Exec α) (s : State) : State := stateOf (x s)

/-- What the end of an instruction, retired or failed, keeps of the state `u` its effect has left. -/
structure Ends (u t : State) : Prop where
  regs : t.regs = u.regs
  flags : t.flags = u.flags
  sp : t.sp = u.sp
  pc : t.pc = u.pc
  interruptsEnabled : t.interruptsEnabled = u.interruptsEnabled
  running : t.running = u.running
  bootOverlay : t.bootOverlay = u.bootOverlay
  bootRom : t.bootRom = u.bootRom
  mem : t.mem = u.mem
  history : t.history = u.history
  cfg : t.cfg = u.cfg
  ppu : u.ppu.SameRegs t.ppu

theorem Retires.ends {i : Instr} {a : Word} {ch : Charge} {u t : State} (h : Retires i a ch u t) : Ends u t :=
  ⟨h.regs, h.flags, h.sp, h.pc, h.interruptsEnabled, h.running, h.bootOverlay, h.bootRom, h.mem, h.history, h.cfg,
    h.ppu ▸ Ppu.tick_sameRegs _ _ _ _⟩

theorem ends_takeError (e : ErrorKind) (op : Option Byte) (a : Word) (u : State) : Ends u (takeError e op a u) :=
  ⟨rfl, rfl, rfl, rfl, rfl, rfl, rfl, rfl, rfl, rfl, rfl, .refl _⟩

/-- Every byte but `LY` reads after the end of an instruction as its effect has left it. -/
theorem Ends.peek {u t : State} (h : Ends u t) {a : Word} (ha : a ≠ 0xFF44) : t.peek a = u.peek a := by
  have hn : a.toNat ≠ 0xFF44 := fun e => ha (BitVec.eq_of_toNat_eq e)
  simp only [State.peek, h.bootOverlay, h.bootRom, h.cfg, h.mem, h.ppu.readReg _ hn]

theorem Ends.reg {u t : State} (h : Ends u t) (r : Reg8) : t.reg r = u.reg r := State.reg_congr h.regs r

/-- An instruction whose effect answers completes. -/
theorem completes_of {i : Instr} {s u : State} {row : OpRow} {len : Nat} {eff : Exec Charge} {ch : Charge}
    (hx : exec i s = complete row len eff s) (hr : i.row = row) (ho : i.opcode = opcodeByte row)
    (hl : i.length = len) (he : eff s = .ok ch u) : Completes i s ch u := by
  refine ⟨retire row (s.pc - BitVec.ofNat 16 len) ch u, ?_, ?_⟩
  · rw [hx]; simp only [complete, he]
  · rw [Instr.address, hl]; exact retires_retire _ ch u hr ho

/-- An instruction whose effect raises takes the error. -/
theorem raises_of {i : Instr} {s u : State} {row : OpRow} {len : Nat} {eff : Exec Charge} {e : ErrorKind}
    (hx : exec i s = complete row len eff s) (ho : i.opcode = opcodeByte row)
    (hl : i.length = len) (he : eff s = .error e u) : Raises i s e u := by
  unfold Raises
  rw [hx]; simp only [complete, he, ho, Instr.address, hl]

end Sys2Proof
end

