-- ==== Sys2Proof/Laws/Meaning.lean ====
section
/-! SUPPORT. The inversion lemma of `exec`: every instruction is one of the forms of Forms.lean, and executing it is completing
that form's effect. A proof about all instructions has one case per form here, not one per row of the table. -/

namespace Sys2Proof

open Sys2Proof.Machine

/-- The effect of each form. -/
inductive Meaning : Instr → Exec Charge → Prop where
  | ldRegReg (d r : Reg8) : Meaning (.ldRegReg d r) (ldRegReg d r)
  | ldRegImm (d : Reg8) (n : Byte) : Meaning (.ldRegImm d n) (ldRegImm d n)
  | ldRegMem (d : Reg8) : Meaning (.ldRegMem d) (ldRegMem d)
  | ldMemReg (r : Reg8) : Meaning (.ldMemReg r) (ldMemReg r)
  | ldMemImm (n : Byte) : Meaning (.ld_mHL_n n) (ldMemImm n)
  | ldABC : Meaning .ld_A_mBC (loadA (·.pair .BC) 2)
  | ldADE : Meaning .ld_A_mDE (loadA (·.pair .DE) 2)
  | ldANN (nn : Word) : Meaning (.ld_A_mNN nn) (loadA (fun _ => nn) 4)
  | ldhAN (n : Byte) : Meaning (.ldh_A_mN n) (loadA (fun _ => highPage n) 3)
  | ldBCA : Meaning .ld_mBC_A (storeA (·.pair .BC) 2)
  | ldDEA : Meaning .ld_mDE_A (storeA (·.pair .DE) 2)
  | ldNNA (nn : Word) : Meaning (.ld_mNN_A nn) (storeA (fun _ => nn) 4)
  | ldhNA (n : Byte) : Meaning (.ldh_mN_A n) (storeA (fun _ => highPage n) 3)
  | ldCA : Meaning .ld_mC_A (storeA (fun s => highPage (s.reg .C)) 2)
  | ldHLIA : Meaning .ld_mHLI_A (storeAMove (· + 1))
  | ldAHLI : Meaning .ld_A_mHLI (loadAMove (· + 1))
  | ldHLDA : Meaning .ld_mHLD_A (storeAMove (· - 1))
  | ldAHLD : Meaning .ld_A_mHLD (loadAMove (· - 1))
  | ldReg16Imm (r : Reg16) (nn : Word) : Meaning (.ldReg16Imm r nn) (ldReg16Imm r nn)
  | ldNNSP (nn : Word) : Meaning (.ld_mNN_SP nn) (ldAbsSP nn)
  | ldSPHL : Meaning .ld_SP_HL ldSPHL
  | ldHLSPe (e : Byte) : Meaning (.ld_HL_SPe e) (ldHLSPe e)
  | push (r : StackReg) : Meaning (.pushReg r) (push r)
  | pop (r : StackReg) : Meaning (.popReg r) (pop r)
  | acc (op : AccOp) (src : Source) : Meaning (.acc op src) (accumulate op src)
  | inc (o : Operand8) : Meaning (.incOp o) (incOperand o)
  | dec (o : Operand8) : Meaning (.decOp o) (decOperand o)
  | cpl : Meaning .cpl (modifyA Alu.complement)
  | scf : Meaning .scf setCarryFlag
  | ccf : Meaning .ccf complementCarryFlag
  | rlca : Meaning .rlca (modifyA Alu.rotateLeftCarry)
  | rrca : Meaning .rrca (modifyA Alu.rotateRightCarry)
  | rla : Meaning .rla (modifyA Alu.rotateLeft)
  | rra : Meaning .rra (modifyA Alu.rotateRight)
  | unsupported {i : Instr} (h : i ∈ Instr.unsupportedRows) : Meaning i unsupported
  | incReg16 (r : Reg16) : Meaning (.incReg16 r) (incReg16 r)
  | decReg16 (r : Reg16) : Meaning (.decReg16 r) (decReg16 r)
  | addHL (r : Reg16) : Meaning (.addHL r) (addHL r)
  | addSPe (e : Byte) : Meaning (.add_SP_e e) (addSPe e)
  | jp (nn : Word) : Meaning (.jp_nn nn) (jump (fun _ => nn) 3)
  | jpIf (cc : Cond) (nn : Word) : Meaning (.jpIf cc nn) (jumpIf cc nn)
  | jpHL : Meaning .jp_mHL (jump (·.pair .HL) 1)
  | jr (e : Byte) : Meaning (.jr_e e) (jumpRelative e)
  | jrIf (cc : Cond) (e : Byte) : Meaning (.jrIf cc e) (jumpRelativeIf cc e)
  | call (nn : Word) : Meaning (.call_nn nn) (call nn)
  | callIf (cc : Cond) (nn : Word) : Meaning (.callIf cc nn) (callIf cc nn)
  | ret : Meaning .ret ret
  | retIf (cc : Cond) : Meaning (.retIf cc) (retIf cc)
  | reti : Meaning .reti reti
  | rst (y : Fin 8) : Meaning (.rst y) (restart (BitVec.ofNat 16 (8 * y.val)))
  | rot (op : RotOp) (o : Operand8) : Meaning (.rot op o) (rotateOperand op o)
  | bit (b : Fin 8) (o : Operand8) : Meaning (.bit b o) (testBit b o)
  | res (b : Fin 8) (o : Operand8) : Meaning (.res b o) (clearBit b o)
  | set (b : Fin 8) (o : Operand8) : Meaning (.set b o) (raiseBit b o)
  | nop : Meaning .nop nop
  | stop : Meaning .stop stop
  | halt : Meaning .halt halt
  | di : Meaning .di (setInterrupts false)
  | ei : Meaning .ei (setInterrupts true)

/-- Every instruction has a form. -/
theorem Instr.form : ∀ i : Instr, i.wellFormed = true → ∃ eff, Meaning i eff
  | .ld_BC_nn nn, _ => ⟨_, .ldReg16Imm (.pair .BC) nn⟩ | .ld_B_n n, _ => ⟨_, .ldRegImm .B n⟩
  | .ld_mNN_SP nn, _ => ⟨_, .ldNNSP nn⟩ | .ld_C_n n, _ => ⟨_, .ldRegImm .C n⟩
  | .ld_DE_nn nn, _ => ⟨_, .ldReg16Imm (.pair .DE) nn⟩ | .ld_D_n n, _ => ⟨_, .ldRegImm .D n⟩
  | .jr_e e, _ => ⟨_, .jr e⟩ | .ld_E_n n, _ => ⟨_, .ldRegImm .E n⟩ | .jr_NZ_e e, _ => ⟨_, .jrIf .NZ e⟩
  | .ld_HL_nn nn, _ => ⟨_, .ldReg16Imm (.pair .HL) nn⟩ | .ld_H_n n, _ => ⟨_, .ldRegImm .H n⟩
  | .jr_Z_e e, _ => ⟨_, .jrIf .Z e⟩ | .ld_L_n n, _ => ⟨_, .ldRegImm .L n⟩ | .jr_NC_e e, _ => ⟨_, .jrIf .NC e⟩
  | .ld_SP_nn nn, _ => ⟨_, .ldReg16Imm .SP nn⟩ | .ld_mHL_n n, _ => ⟨_, .ldMemImm n⟩
  | .jr_C_e e, _ => ⟨_, .jrIf .C e⟩ | .ld_A_n n, _ => ⟨_, .ldRegImm .A n⟩ | .jp_NZ_nn nn, _ => ⟨_, .jpIf .NZ nn⟩
  | .jp_nn nn, _ => ⟨_, .jp nn⟩ | .call_NZ_nn nn, _ => ⟨_, .callIf .NZ nn⟩
  | .add_A_n n, _ => ⟨_, .acc .add (.imm n)⟩ | .jp_Z_nn nn, _ => ⟨_, .jpIf .Z nn⟩
  | .call_Z_nn nn, _ => ⟨_, .callIf .Z nn⟩ | .call_nn nn, _ => ⟨_, .call nn⟩
  | .adc_A_n n, _ => ⟨_, .acc .adc (.imm n)⟩ | .jp_NC_nn nn, _ => ⟨_, .jpIf .NC nn⟩
  | .call_NC_nn nn, _ => ⟨_, .callIf .NC nn⟩ | .sub_A_n n, _ => ⟨_, .acc .sub (.imm n)⟩
  | .jp_C_nn nn, _ => ⟨_, .jpIf .C nn⟩ | .call_C_nn nn, _ => ⟨_, .callIf .C nn⟩
  | .sbc_A_n n, _ => ⟨_, .acc .sbc (.imm n)⟩ | .ldh_mN_A n, _ => ⟨_, .ldhNA n⟩
  | .and_A_n n, _ => ⟨_, .acc .and (.imm n)⟩ | .add_SP_e e, _ => ⟨_, .addSPe e⟩ | .ld_mNN_A nn, _ => ⟨_, .ldNNA nn⟩
  | .xor_A_n n, _ => ⟨_, .acc .xor (.imm n)⟩ | .ldh_A_mN n, _ => ⟨_, .ldhAN n⟩
  | .or_A_n n, _ => ⟨_, .acc .or (.imm n)⟩ | .ld_HL_SPe e, _ => ⟨_, .ldHLSPe e⟩ | .ld_A_mNN nn, _ => ⟨_, .ldANN nn⟩
  | .cp_A_n n, _ => ⟨_, .acc .cp (.imm n)⟩ | .nop, _ => ⟨_, .nop⟩ | .ld_mBC_A, _ => ⟨_, .ldBCA⟩
  | .inc_BC, _ => ⟨_, .incReg16 (.pair .BC)⟩ | .inc_B, _ => ⟨_, .inc (.reg .B)⟩ | .dec_B, _ => ⟨_, .dec (.reg .B)⟩
  | .rlca, _ => ⟨_, .rlca⟩ | .add_HL_BC, _ => ⟨_, .addHL (.pair .BC)⟩ | .ld_A_mBC, _ => ⟨_, .ldABC⟩
  | .dec_BC, _ => ⟨_, .decReg16 (.pair .BC)⟩ | .inc_C, _ => ⟨_, .inc (.reg .C)⟩ | .dec_C, _ => ⟨_, .dec (.reg .C)⟩
  | .rrca, _ => ⟨_, .rrca⟩ | .stop, _ => ⟨_, .stop⟩ | .ld_mDE_A, _ => ⟨_, .ldDEA⟩
  | .inc_DE, _ => ⟨_, .incReg16 (.pair .DE)⟩ | .inc_D, _ => ⟨_, .inc (.reg .D)⟩ | .dec_D, _ => ⟨_, .dec (.reg .D)⟩
  | .rla, _ => ⟨_, .rla⟩ | .add_HL_DE, _ => ⟨_, .addHL (.pair .DE)⟩ | .ld_A_mDE, _ => ⟨_, .ldADE⟩
  | .dec_DE, _ => ⟨_, .decReg16 (.pair .DE)⟩ | .inc_E, _ => ⟨_, .inc (.reg .E)⟩ | .dec_E, _ => ⟨_, .dec (.reg .E)⟩
  | .rra, _ => ⟨_, .rra⟩ | .ld_mHLI_A, _ => ⟨_, .ldHLIA⟩ | .inc_HL, _ => ⟨_, .incReg16 (.pair .HL)⟩
  | .inc_H, _ => ⟨_, .inc (.reg .H)⟩ | .dec_H, _ => ⟨_, .dec (.reg .H)⟩ | .daa, _ => ⟨_, .unsupported (by decide)⟩
  | .add_HL_HL, _ => ⟨_, .addHL (.pair .HL)⟩ | .ld_A_mHLI, _ => ⟨_, .ldAHLI⟩
  | .dec_HL, _ => ⟨_, .decReg16 (.pair .HL)⟩ | .inc_L, _ => ⟨_, .inc (.reg .L)⟩ | .dec_L, _ => ⟨_, .dec (.reg .L)⟩
  | .cpl, _ => ⟨_, .cpl⟩ | .ld_mHLD_A, _ => ⟨_, .ldHLDA⟩ | .inc_SP, _ => ⟨_, .incReg16 .SP⟩
  | .inc_mHL, _ => ⟨_, .inc .mHL⟩ | .dec_mHL, _ => ⟨_, .dec .mHL⟩ | .scf, _ => ⟨_, .scf⟩
  | .add_HL_SP, _ => ⟨_, .addHL .SP⟩ | .ld_A_mHLD, _ => ⟨_, .ldAHLD⟩ | .dec_SP, _ => ⟨_, .decReg16 .SP⟩
  | .inc_A, _ => ⟨_, .inc (.reg .A)⟩ | .dec_A, _ => ⟨_, .dec (.reg .A)⟩ | .ccf, _ => ⟨_, .ccf⟩
  | .ld_B_B, _ => ⟨_, .ldRegReg .B .B⟩ | .ld_B_C, _ => ⟨_, .ldRegReg .B .C⟩ | .ld_B_D, _ => ⟨_, .ldRegReg .B .D⟩
  | .ld_B_E, _ => ⟨_, .ldRegReg .B .E⟩ | .ld_B_H, _ => ⟨_, .ldRegReg .B .H⟩ | .ld_B_L, _ => ⟨_, .ldRegReg .B .L⟩
  | .ld_B_mHL, _ => ⟨_, .ldRegMem .B⟩ | .ld_B_A, _ => ⟨_, .ldRegReg .B .A⟩ | .ld_C_B, _ => ⟨_, .ldRegReg .C .B⟩
  | .ld_C_C, _ => ⟨_, .ldRegReg .C .C⟩ | .ld_C_D, _ => ⟨_, .ldRegReg .C .D⟩ | .ld_C_E, _ => ⟨_, .ldRegReg .C .E⟩
  | .ld_C_H, _ => ⟨_, .ldRegReg .C .H⟩ | .ld_C_L, _ => ⟨_, .ldRegReg .C .L⟩ | .ld_C_mHL, _ => ⟨_, .ldRegMem .C⟩
  | .ld_C_A, _ => ⟨_, .ldRegReg .C .A⟩ | .ld_D_B, _ => ⟨_, .ldRegReg .D .B⟩ | .ld_D_C, _ => ⟨_, .ldRegReg .D .C⟩
  | .ld_D_D, _ => ⟨_, .ldRegReg .D .D⟩ | .ld_D_E, _ => ⟨_, .ldRegReg .D .E⟩ | .ld_D_H, _ => ⟨_, .ldRegReg .D .H⟩
  | .ld_D_L, _ => ⟨_, .ldRegReg .D .L⟩ | .ld_D_mHL, _ => ⟨_, .ldRegMem .D⟩ | .ld_D_A, _ => ⟨_, .ldRegReg .D .A⟩
  | .ld_E_B, _ => ⟨_, .ldRegReg .E .B⟩ | .ld_E_C, _ => ⟨_, .ldRegReg .E .C⟩ | .ld_E_D, _ => ⟨_, .ldRegReg .E .D⟩
  | .ld_E_E, _ => ⟨_, .ldRegReg .E .E⟩ | .ld_E_H, _ => ⟨_, .ldRegReg .E .H⟩ | .ld_E_L, _ => ⟨_, .ldRegReg .E .L⟩
  | .ld_E_mHL, _ => ⟨_, .ldRegMem .E⟩ | .ld_E_A, _ => ⟨_, .ldRegReg .E .A⟩ | .ld_H_B, _ => ⟨_, .ldRegReg .H .B⟩
  | .ld_H_C, _ => ⟨_, .ldRegReg .H .C⟩ | .ld_H_D, _ => ⟨_, .ldRegReg .H .D⟩ | .ld_H_E, _ => ⟨_, .ldRegReg .H .E⟩
  | .ld_H_H, _ => ⟨_, .ldRegReg .H .H⟩ | .ld_H_L, _ => ⟨_, .ldRegReg .H .L⟩ | .ld_H_mHL, _ => ⟨_, .ldRegMem .H⟩
  | .ld_H_A, _ => ⟨_, .ldRegReg .H .A⟩ | .ld_L_B, _ => ⟨_, .ldRegReg .L .B⟩ | .ld_L_C, _ => ⟨_, .ldRegReg .L .C⟩
  | .ld_L_D, _ => ⟨_, .ldRegReg .L .D⟩ | .ld_L_E, _ => ⟨_, .ldRegReg .L .E⟩ | .ld_L_H, _ => ⟨_, .ldRegReg .L .H⟩
  | .ld_L_L, _ => ⟨_, .ldRegReg .L .L⟩ | .ld_L_mHL, _ => ⟨_, .ldRegMem .L⟩ | .ld_L_A, _ => ⟨_, .ldRegReg .L .A⟩
  | .ld_mHL_B, _ => ⟨_, .ldMemReg .B⟩ | .ld_mHL_C, _ => ⟨_, .ldMemReg .C⟩ | .ld_mHL_D, _ => ⟨_, .ldMemReg .D⟩
  | .ld_mHL_E, _ => ⟨_, .ldMemReg .E⟩ | .ld_mHL_H, _ => ⟨_, .ldMemReg .H⟩ | .ld_mHL_L, _ => ⟨_, .ldMemReg .L⟩
  | .halt, _ => ⟨_, .halt⟩ | .ld_mHL_A, _ => ⟨_, .ldMemReg .A⟩ | .ld_A_B, _ => ⟨_, .ldRegReg .A .B⟩
  | .ld_A_C, _ => ⟨_, .ldRegReg .A .C⟩ | .ld_A_D, _ => ⟨_, .ldRegReg .A .D⟩ | .ld_A_E, _ => ⟨_, .ldRegReg .A .E⟩
  | .ld_A_H, _ => ⟨_, .ldRegReg .A .H⟩ | .ld_A_L, _ => ⟨_, .ldRegReg .A .L⟩ | .ld_A_mHL, _ => ⟨_, .ldRegMem .A⟩
  | .ld_A_A, _ => ⟨_, .ldRegReg .A .A⟩ | .add_A_B, _ => ⟨_, .acc .add (.op (.reg .B))⟩
  | .add_A_C, _ => ⟨_, .acc .add (.op (.reg .C))⟩ | .add_A_D, _ => ⟨_, .acc .add (.op (.reg .D))⟩
  | .add_A_E, _ => ⟨_, .acc .add (.op (.reg .E))⟩ | .add_A_H, _ => ⟨_, .acc .add (.op (.reg .H))⟩
  | .add_A_L, _ => ⟨_, .acc .add (.op (.reg .L))⟩ | .add_A_mHL, _ => ⟨_, .acc .add (.op .mHL)⟩
  | .add_A_A, _ => ⟨_, .acc .add (.op (.reg .A))⟩ | .adc_A_B, _ => ⟨_, .acc .adc (.op (.reg .B))⟩
  | .adc_A_C, _ => ⟨_, .acc .adc (.op (.reg .C))⟩ | .adc_A_D, _ => ⟨_, .acc .adc (.op (.reg .D))⟩
  | .adc_A_E, _ => ⟨_, .acc .adc (.op (.reg .E))⟩ | .adc_A_H, _ => ⟨_, .acc .adc (.op (.reg .H))⟩
  | .adc_A_L, _ => ⟨_, .acc .adc (.op (.reg .L))⟩ | .adc_A_mHL, _ => ⟨_, .acc .adc (.op .mHL)⟩
  | .adc_A_A, _ => ⟨_, .acc .adc (.op (.reg .A))⟩ | .sub_A_B, _ => ⟨_, .acc .sub (.op (.reg .B))⟩
  | .sub_A_C, _ => ⟨_, .acc .sub (.op (.reg .C))⟩ | .sub_A_D, _ => ⟨_, .acc .sub (.op (.reg .D))⟩
  | .sub_A_E, _ => ⟨_, .acc .sub (.op (.reg .E))⟩ | .sub_A_H, _ => ⟨_, .acc .sub (.op (.reg .H))⟩
  | .sub_A_L, _ => ⟨_, .acc .sub (.op (.reg .L))⟩ | .sub_A_mHL, _ => ⟨_, .acc .sub (.op .mHL)⟩
  | .sub_A_A, _ => ⟨_, .acc .sub (.op (.reg .A))⟩ | .sbc_A_B, _ => ⟨_, .acc .sbc (.op (.reg .B))⟩
  | .sbc_A_C, _ => ⟨_, .acc .sbc (.op (.reg .C))⟩ | .sbc_A_D, _ => ⟨_, .acc .sbc (.op (.reg .D))⟩
  | .sbc_A_E, _ => ⟨_, .acc .sbc (.op (.reg .E))⟩ | .sbc_A_H, _ => ⟨_, .acc .sbc (.op (.reg .H))⟩
  | .sbc_A_L, _ => ⟨_, .acc .sbc (.op (.reg .L))⟩ | .sbc_A_mHL, _ => ⟨_, .acc .sbc (.op .mHL)⟩
  | .sbc_A_A, _ => ⟨_, .acc .sbc (.op (.reg .A))⟩ | .and_A_B, _ => ⟨_, .acc .and (.op (.reg .B))⟩
  | .and_A_C, _ => ⟨_, .acc .and (.op (.reg .C))⟩ | .and_A_D, _ => ⟨_, .acc .and (.op (.reg .D))⟩
  | .and_A_E, _ => ⟨_, .acc .and (.op (.reg .E))⟩ | .and_A_H, _ => ⟨_, .acc .and (.op (.reg .H))⟩
  | .and_A_L, _ => ⟨_, .acc .and (.op (.reg .L))⟩ | .and_A_mHL, _ => ⟨_, .acc .and (.op .mHL)⟩
  | .and_A_A, _ => ⟨_, .acc .and (.op (.reg .A))⟩ | .xor_A_B, _ => ⟨_, .acc .xor (.op (.reg .B))⟩
  | .xor_A_C, _ => ⟨_, .acc .xor (.op (.reg .C))⟩ | .xor_A_D, _ => ⟨_, .acc .xor (.op (.reg .D))⟩
  | .xor_A_E, _ => ⟨_, .acc .xor (.op (.reg .E))⟩ | .xor_A_H, _ => ⟨_, .acc .xor (.op (.reg .H))⟩
  | .xor_A_L, _ => ⟨_, .acc .xor (.op (.reg .L))⟩ | .xor_A_mHL, _ => ⟨_, .acc .xor (.op .mHL)⟩
  | .xor_A_A, _ => ⟨_, .acc .xor (.op (.reg .A))⟩ | .or_A_B, _ => ⟨_, .acc .or (.op (.reg .B))⟩
  | .or_A_C, _ => ⟨_, .acc .or (.op (.reg .C))⟩ | .or_A_D, _ => ⟨_, .acc .or (.op (.reg .D))⟩
  | .or_A_E, _ => ⟨_, .acc .or (.op (.reg .E))⟩ | .or_A_H, _ => ⟨_, .acc .or (.op (.reg .H))⟩
  | .or_A_L, _ => ⟨_, .acc .or (.op (.reg .L))⟩ | .or_A_mHL, _ => ⟨_, .acc .or (.op .mHL)⟩
  | .or_A_A, _ => ⟨_, .acc .or (.op (.reg .A))⟩ | .cp_A_B, _ => ⟨_, .acc .cp (.op (.reg .B))⟩
  | .cp_A_C, _ => ⟨_, .acc .cp (.op (.reg .C))⟩ | .cp_A_D, _ => ⟨_, .acc .cp (.op (.reg .D))⟩
  | .cp_A_E, _ => ⟨_, .acc .cp (.op (.reg .E))⟩ | .cp_A_H, _ => ⟨_, .acc .cp (.op (.reg .H))⟩
  | .cp_A_L, _ => ⟨_, .acc .cp (.op (.reg .L))⟩ | .cp_A_mHL, _ => ⟨_, .acc .cp (.op .mHL)⟩
  | .cp_A_A, _ => ⟨_, .acc .cp (.op (.reg .A))⟩ | .ret_NZ, _ => ⟨_, .retIf .NZ⟩
  | .pop_BC, _ => ⟨_, .pop (.pair .BC)⟩ | .push_BC, _ => ⟨_, .push (.pair .BC)⟩ | .rst_00H, _ => ⟨_, .rst 0⟩
  | .ret_Z, _ => ⟨_, .retIf .Z⟩ | .ret, _ => ⟨_, .ret⟩ | .prefix_CB, h => by cases h | .rst_08H, _ => ⟨_, .rst 1⟩
  | .ret_NC, _ => ⟨_, .retIf .NC⟩ | .pop_DE, _ => ⟨_, .pop (.pair .DE)⟩
  | .illegal_D3, _ => ⟨_, .unsupported (by decide)⟩ | .push_DE, _ => ⟨_, .push (.pair .DE)⟩
  | .rst_10H, _ => ⟨_, .rst 2⟩ | .ret_C, _ => ⟨_, .retIf .C⟩ | .reti, _ => ⟨_, .reti⟩
  | .illegal_DB, _ => ⟨_, .unsupported (by decide)⟩ | .illegal_DD, _ => ⟨_, .unsupported (by decide)⟩
  | .rst_18H, _ => ⟨_, .rst 3⟩ | .pop_HL, _ => ⟨_, .pop (.pair .HL)⟩ | .ld_mC_A, _ => ⟨_, .ldCA⟩
  | .illegal_E3, _ => ⟨_, .unsupported (by decide)⟩ | .illegal_E4, _ => ⟨_, .unsupported (by decide)⟩
  | .push_HL, _ => ⟨_, .push (.pair .HL)⟩ | .rst_20H, _ => ⟨_, .rst 4⟩ | .jp_mHL, _ => ⟨_, .jpHL⟩
  | .illegal_EB, _ => ⟨_, .unsupported (by decide)⟩ | .illegal_EC, _ => ⟨_, .unsupported (by decide)⟩
  | .illegal_ED, _ => ⟨_, .unsupported (by decide)⟩ | .rst_28H, _ => ⟨_, .rst 5⟩ | .pop_AF, _ => ⟨_, .pop .AF⟩
  | .illegal_F2, _ => ⟨_, .unsupported (by decide)⟩ | .di, _ => ⟨_, .di⟩
  | .illegal_F4, _ => ⟨_, .unsupported (by decide)⟩ | .push_AF, _ => ⟨_, .push .AF⟩ | .rst_30H, _ => ⟨_, .rst 6⟩
  | .ld_SP_HL, _ => ⟨_, .ldSPHL⟩ | .ei, _ => ⟨_, .ei⟩ | .illegal_FC, _ => ⟨_, .unsupported (by decide)⟩
  | .illegal_FD, _ => ⟨_, .unsupported (by decide)⟩ | .rst_38H, _ => ⟨_, .rst 7⟩
  | .rlc_B, _ => ⟨_, .rot .rlc (.reg .B)⟩ | .rlc_C, _ => ⟨_, .rot .rlc (.reg .C)⟩
  | .rlc_D, _ => ⟨_, .rot .rlc (.reg .D)⟩ | .rlc_E, _ => ⟨_, .rot .rlc (.reg .E)⟩
  | .rlc_H, _ => ⟨_, .rot .rlc (.reg .H)⟩ | .rlc_L, _ => ⟨_, .rot .rlc (.reg .L)⟩
  | .rlc_mHL, _ => ⟨_, .rot .rlc .mHL⟩ | .rlc_A, _ => ⟨_, .rot .rlc (.reg .A)⟩
  | .rrc_B, _ => ⟨_, .rot .rrc (.reg .B)⟩ | .rrc_C, _ => ⟨_, .rot .rrc (.reg .C)⟩
  | .rrc_D, _ => ⟨_, .rot .rrc (.reg .D)⟩ | .rrc_E, _ => ⟨_, .rot .rrc (.reg .E)⟩
  | .rrc_H, _ => ⟨_, .rot .rrc (.reg .H)⟩ | .rrc_L, _ => ⟨_, .rot .rrc (.reg .L)⟩
  | .rrc_mHL, _ => ⟨_, .rot .rrc .mHL⟩ | .rrc_A, _ => ⟨_, .rot .rrc (.reg .A)⟩ | .rl_B, _ => ⟨_, .rot .rl (.reg .B)⟩
  | .rl_C, _ => ⟨_, .rot .rl (.reg .C)⟩ | .rl_D, _ => ⟨_, .rot .rl (.reg .D)⟩ | .rl_E, _ => ⟨_, .rot .rl (.reg .E)⟩
  | .rl_H, _ => ⟨_, .rot .rl (.reg .H)⟩ | .rl_L, _ => ⟨_, .rot .rl (.reg .L)⟩ | .rl_mHL, _ => ⟨_, .rot .rl .mHL⟩
  | .rl_A, _ => ⟨_, .rot .rl (.reg .A)⟩ | .rr_B, _ => ⟨_, .rot .rr (.reg .B)⟩ | .rr_C, _ => ⟨_, .rot .rr (.reg .C)⟩
  | .rr_D, _ => ⟨_, .rot .rr (.reg .D)⟩ | .rr_E, _ => ⟨_, .rot .rr (.reg .E)⟩ | .rr_H, _ => ⟨_, .rot .rr (.reg .H)⟩
  | .rr_L, _ => ⟨_, .rot .rr (.reg .L)⟩ | .rr_mHL, _ => ⟨_, .rot .rr .mHL⟩ | .rr_A, _ => ⟨_, .rot .rr (.reg .A)⟩
  | .sla_B, _ => ⟨_, .rot .sla (.reg .B)⟩ | .sla_C, _ => ⟨_, .rot .sla (.reg .C)⟩
  | .sla_D, _ => ⟨_, .rot .sla (.reg .D)⟩ | .sla_E, _ => ⟨_, .rot .sla (.reg .E)⟩
  | .sla_H, _ => ⟨_, .rot .sla (.reg .H)⟩ | .sla_L, _ => ⟨_, .rot .sla (.reg .L)⟩
  | .sla_mHL, _ => ⟨_, .rot .sla .mHL⟩ | .sla_A, _ => ⟨_, .rot .sla (.reg .A)⟩
  | .sra_B, _ => ⟨_, .rot .sra (.reg .B)⟩ | .sra_C, _ => ⟨_, .rot .sra (.reg .C)⟩
  | .sra_D, _ => ⟨_, .rot .sra (.reg .D)⟩ | .sra_E, _ => ⟨_, .rot .sra (.reg .E)⟩
  | .sra_H, _ => ⟨_, .rot .sra (.reg .H)⟩ | .sra_L, _ => ⟨_, .rot .sra (.reg .L)⟩
  | .sra_mHL, _ => ⟨_, .rot .sra .mHL⟩ | .sra_A, _ => ⟨_, .rot .sra (.reg .A)⟩
  | .swap_B, _ => ⟨_, .rot .swap (.reg .B)⟩ | .swap_C, _ => ⟨_, .rot .swap (.reg .C)⟩
  | .swap_D, _ => ⟨_, .rot .swap (.reg .D)⟩ | .swap_E, _ => ⟨_, .rot .swap (.reg .E)⟩
  | .swap_H, _ => ⟨_, .rot .swap (.reg .H)⟩ | .swap_L, _ => ⟨_, .rot .swap (.reg .L)⟩
  | .swap_mHL, _ => ⟨_, .rot .swap .mHL⟩ | .swap_A, _ => ⟨_, .rot .swap (.reg .A)⟩
  | .srl_B, _ => ⟨_, .rot .srl (.reg .B)⟩ | .srl_C, _ => ⟨_, .rot .srl (.reg .C)⟩
  | .srl_D, _ => ⟨_, .rot .srl (.reg .D)⟩ | .srl_E, _ => ⟨_, .rot .srl (.reg .E)⟩
  | .srl_H, _ => ⟨_, .rot .srl (.reg .H)⟩ | .srl_L, _ => ⟨_, .rot .srl (.reg .L)⟩
  | .srl_mHL, _ => ⟨_, .rot .srl .mHL⟩ | .srl_A, _ => ⟨_, .rot .srl (.reg .A)⟩
  | .bit_0_B, _ => ⟨_, .bit 0 (.reg .B)⟩ | .bit_0_C, _ => ⟨_, .bit 0 (.reg .C)⟩
  | .bit_0_D, _ => ⟨_, .bit 0 (.reg .D)⟩ | .bit_0_E, _ => ⟨_, .bit 0 (.reg .E)⟩
  | .bit_0_H, _ => ⟨_, .bit 0 (.reg .H)⟩ | .bit_0_L, _ => ⟨_, .bit 0 (.reg .L)⟩ | .bit_0_mHL, _ => ⟨_, .bit 0 .mHL⟩
  | .bit_0_A, _ => ⟨_, .bit 0 (.reg .A)⟩ | .bit_1_B, _ => ⟨_, .bit 1 (.reg .B)⟩
  | .bit_1_C, _ => ⟨_, .bit 1 (.reg .C)⟩ | .bit_1_D, _ => ⟨_, .bit 1 (.reg .D)⟩
  | .bit_1_E, _ => ⟨_, .bit 1 (.reg .E)⟩ | .bit_1_H, _ => ⟨_, .bit 1 (.reg .H)⟩
  | .bit_1_L, _ => ⟨_, .bit 1 (.reg .L)⟩ | .bit_1_mHL, _ => ⟨_, .bit 1 .mHL⟩ | .bit_1_A, _ => ⟨_, .bit 1 (.reg .A)⟩
  | .bit_2_B, _ => ⟨_, .bit 2 (.reg .B)⟩ | .bit_2_C, _ => ⟨_, .bit 2 (.reg .C)⟩
  | .bit_2_D, _ => ⟨_, .bit 2 (.reg .D)⟩ | .bit_2_E, _ => ⟨_, .bit 2 (.reg .E)⟩
  | .bit_2_H, _ => ⟨_, .bit 2 (.reg .H)⟩ | .bit_2_L, _ => ⟨_, .bit 2 (.reg .L)⟩ | .bit_2_mHL, _ => ⟨_, .bit 2 .mHL⟩
  | .bit_2_A, _ => ⟨_, .bit 2 (.reg .A)⟩ | .bit_3_B, _ => ⟨_, .bit 3 (.reg .B)⟩
  | .bit_3_C, _ => ⟨_, .bit 3 (.reg .C)⟩ | .bit_3_D, _ => ⟨_, .bit 3 (.reg .D)⟩
  | .bit_3_E, _ => ⟨_, .bit 3 (.reg .E)⟩ | .bit_3_H, _ => ⟨_, .bit 3 (.reg .H)⟩
  | .bit_3_L, _ => ⟨_, .bit 3 (.reg .L)⟩ | .bit_3_mHL, _ => ⟨_, .bit 3 .mHL⟩ | .bit_3_A, _ => ⟨_, .bit 3 (.reg .A)⟩
  | .bit_4_B, _ => ⟨_, .bit 4 (.reg .B)⟩ | .bit_4_C, _ => ⟨_, .bit 4 (.reg .C)⟩
  | .bit_4_D, _ => ⟨_, .bit 4 (.reg .D)⟩ | .bit_4_E, _ => ⟨_, .bit 4 (.reg .E)⟩
  | .bit_4_H, _ => ⟨_, .bit 4 (.reg .H)⟩ | .bit_4_L, _ => ⟨_, .bit 4 (.reg .L)⟩ | .bit_4_mHL, _ => ⟨_, .bit 4 .mHL⟩
  | .bit_4_A, _ => ⟨_, .bit 4 (.reg .A)⟩ | .bit_5_B, _ => ⟨_, .bit 5 (.reg .B)⟩
  | .bit_5_C, _ => ⟨_, .bit 5 (.reg .C)⟩ | .bit_5_D, _ => ⟨_, .bit 5 (.reg .D)⟩
  | .bit_5_E, _ => ⟨_, .bit 5 (.reg .E)⟩ | .bit_5_H, _ => ⟨_, .bit 5 (.reg .H)⟩
  | .bit_5_L, _ => ⟨_, .bit 5 (.reg .L)⟩ | .bit_5_mHL, _ => ⟨_, .bit 5 .mHL⟩ | .bit_5_A, _ => ⟨_, .bit 5 (.reg .A)⟩
  | .bit_6_B, _ => ⟨_, .bit 6 (.reg .B)⟩ | .bit_6_C, _ => ⟨_, .bit 6 (.reg .C)⟩
  | .bit_6_D, _ => ⟨_, .bit 6 (.reg .D)⟩ | .bit_6_E, _ => ⟨_, .bit 6 (.reg .E)⟩
  | .bit_6_H, _ => ⟨_, .bit 6 (.reg .H)⟩ | .bit_6_L, _ => ⟨_, .bit 6 (.reg .L)⟩ | .bit_6_mHL, _ => ⟨_, .bit 6 .mHL⟩
  | .bit_6_A, _ => ⟨_, .bit 6 (.reg .A)⟩ | .bit_7_B, _ => ⟨_, .bit 7 (.reg .B)⟩
  | .bit_7_C, _ => ⟨_, .bit 7 (.reg .C)⟩ | .bit_7_D, _ => ⟨_, .bit 7 (.reg .D)⟩
  | .bit_7_E, _ => ⟨_, .bit 7 (.reg .E)⟩ | .bit_7_H, _ => ⟨_, .bit 7 (.reg .H)⟩
  | .bit_7_L, _ => ⟨_, .bit 7 (.reg .L)⟩ | .bit_7_mHL, _ => ⟨_, .bit 7 .mHL⟩ | .bit_7_A, _ => ⟨_, .bit 7 (.reg .A)⟩
  | .res_0_B, _ => ⟨_, .res 0 (.reg .B)⟩ | .res_0_C, _ => ⟨_, .res 0 (.reg .C)⟩
  | .res_0_D, _ => ⟨_, .res 0 (.reg .D)⟩ | .res_0_E, _ => ⟨_, .res 0 (.reg .E)⟩
  | .res_0_H, _ => ⟨_, .res 0 (.reg .H)⟩ | .res_0_L, _ => ⟨_, .res 0 (.reg .L)⟩ | .res_0_mHL, _ => ⟨_, .res 0 .mHL⟩
  | .res_0_A, _ => ⟨_, .res 0 (.reg .A)⟩ | .res_1_B, _ => ⟨_, .res 1 (.reg .B)⟩
  | .res_1_C, _ => ⟨_, .res 1 (.reg .C)⟩ | .res_1_D, _ => ⟨_, .res 1 (.reg .D)⟩
  | .res_1_E, _ => ⟨_, .res 1 (.reg .E)⟩ | .res_1_H, _ => ⟨_, .res 1 (.reg .H)⟩
  | .res_1_L, _ => ⟨_, .res 1 (.reg .L)⟩ | .res_1_mHL, _ => ⟨_, .res 1 .mHL⟩ | .res_1_A, _ => ⟨_, .res 1 (.reg .A)⟩
  | .res_2_B, _ => ⟨_, .res 2 (.reg .B)⟩ | .res_2_C, _ => ⟨_, .res 2 (.reg .C)⟩
  | .res_2_D, _ => ⟨_, .res 2 (.reg .D)⟩ | .res_2_E, _ => ⟨_, .res 2 (.reg .E)⟩
  | .res_2_H, _ => ⟨_, .res 2 (.reg .H)⟩ | .res_2_L, _ => ⟨_, .res 2 (.reg .L)⟩ | .res_2_mHL, _ => ⟨_, .res 2 .mHL⟩
  | .res_2_A, _ => ⟨_, .res 2 (.reg .A)⟩ | .res_3_B, _ => ⟨_, .res 3 (.reg .B)⟩
  | .res_3_C, _ => ⟨_, .res 3 (.reg .C)⟩ | .res_3_D, _ => ⟨_, .res 3 (.reg .D)⟩
  | .res_3_E, _ => ⟨_, .res 3 (.reg .E)⟩ | .res_3_H, _ => ⟨_, .res 3 (.reg .H)⟩
  | .res_3_L, _ => ⟨_, .res 3 (.reg .L)⟩ | .res_3_mHL, _ => ⟨_, .res 3 .mHL⟩ | .res_3_A, _ => ⟨_, .res 3 (.reg .A)⟩
  | .res_4_B, _ => ⟨_, .res 4 (.reg .B)⟩ | .res_4_C, _ => ⟨_, .res 4 (.reg .C)⟩
  | .res_4_D, _ => ⟨_, .res 4 (.reg .D)⟩ | .res_4_E, _ => ⟨_, .res 4 (.reg .E)⟩
  | .res_4_H, _ => ⟨_, .res 4 (.reg .H)⟩ | .res_4_L, _ => ⟨_, .res 4 (.reg .L)⟩ | .res_4_mHL, _ => ⟨_, .res 4 .mHL⟩
  | .res_4_A, _ => ⟨_, .res 4 (.reg .A)⟩ | .res_5_B, _ => ⟨_, .res 5 (.reg .B)⟩
  | .res_5_C, _ => ⟨_, .res 5 (.reg .C)⟩ | .res_5_D, _ => ⟨_, .res 5 (.reg .D)⟩
  | .res_5_E, _ => ⟨_, .res 5 (.reg .E)⟩ | .res_5_H, _ => ⟨_, .res 5 (.reg .H)⟩
  | .res_5_L, _ => ⟨_, .res 5 (.reg .L)⟩ | .res_5_mHL, _ => ⟨_, .res 5 .mHL⟩ | .res_5_A, _ => ⟨_, .res 5 (.reg .A)⟩
  | .res_6_B, _ => ⟨_, .res 6 (.reg .B)⟩ | .res_6_C, _ => ⟨_, .res 6 (.reg .C)⟩
  | .res_6_D, _ => ⟨_, .res 6 (.reg .D)⟩ | .res_6_E, _ => ⟨_, .res 6 (.reg .E)⟩
  | .res_6_H, _ => ⟨_, .res 6 (.reg .H)⟩ | .res_6_L, _ => ⟨_, .res 6 (.reg .L)⟩ | .res_6_mHL, _ => ⟨_, .res 6 .mHL⟩
  | .res_6_A, _ => ⟨_, .res 6 (.reg .A)⟩ | .res_7_B, _ => ⟨_, .res 7 (.reg .B)⟩
  | .res_7_C, _ => ⟨_, .res 7 (.reg .C)⟩ | .res_7_D, _ => ⟨_, .res 7 (.reg .D)⟩
  | .res_7_E, _ => ⟨_, .res 7 (.reg .E)⟩ | .res_7_H, _ => ⟨_, .res 7 (.reg .H)⟩
  | .res_7_L, _ => ⟨_, .res 7 (.reg .L)⟩ | .res_7_mHL, _ => ⟨_, .res 7 .mHL⟩ | .res_7_A, _ => ⟨_, .res 7 (.reg .A)⟩
  | .set_0_B, _ => ⟨_, .set 0 (.reg .B)⟩ | .set_0_C, _ => ⟨_, .set 0 (.reg .C)⟩
  | .set_0_D, _ => ⟨_, .set 0 (.reg .D)⟩ | .set_0_E, _ => ⟨_, .set 0 (.reg .E)⟩
  | .set_0_H, _ => ⟨_, .set 0 (.reg .H)⟩ | .set_0_L, _ => ⟨_, .set 0 (.reg .L)⟩ | .set_0_mHL, _ => ⟨_, .set 0 .mHL⟩
  | .set_0_A, _ => ⟨_, .set 0 (.reg .A)⟩ | .set_1_B, _ => ⟨_, .set 1 (.reg .B)⟩
  | .set_1_C, _ => ⟨_, .set 1 (.reg .C)⟩ | .set_1_D, _ => ⟨_, .set 1 (.reg .D)⟩
  | .set_1_E, _ => ⟨_, .set 1 (.reg .E)⟩ | .set_1_H, _ => ⟨_, .set 1 (.reg .H)⟩
  | .set_1_L, _ => ⟨_, .set 1 (.reg .L)⟩ | .set_1_mHL, _ => ⟨_, .set 1 .mHL⟩ | .set_1_A, _ => ⟨_, .set 1 (.reg .A)⟩
  | .set_2_B, _ => ⟨_, .set 2 (.reg .B)⟩ | .set_2_C, _ => ⟨_, .set 2 (.reg .C)⟩
  | .set_2_D, _ => ⟨_, .set 2 (.reg .D)⟩ | .set_2_E, _ => ⟨_, .set 2 (.reg .E)⟩
  | .set_2_H, _ => ⟨_, .set 2 (.reg .H)⟩ | .set_2_L, _ => ⟨_, .set 2 (.reg .L)⟩ | .set_2_mHL, _ => ⟨_, .set 2 .mHL⟩
  | .set_2_A, _ => ⟨_, .set 2 (.reg .A)⟩ | .set_3_B, _ => ⟨_, .set 3 (.reg .B)⟩
  | .set_3_C, _ => ⟨_, .set 3 (.reg .C)⟩ | .set_3_D, _ => ⟨_, .set 3 (.reg .D)⟩
  | .set_3_E, _ => ⟨_, .set 3 (.reg .E)⟩ | .set_3_H, _ => ⟨_, .set 3 (.reg .H)⟩
  | .set_3_L, _ => ⟨_, .set 3 (.reg .L)⟩ | .set_3_mHL, _ => ⟨_, .set 3 .mHL⟩ | .set_3_A, _ => ⟨_, .set 3 (.reg .A)⟩
  | .set_4_B, _ => ⟨_, .set 4 (.reg .B)⟩ | .set_4_C, _ => ⟨_, .set 4 (.reg .C)⟩
  | .set_4_D, _ => ⟨_, .set 4 (.reg .D)⟩ | .set_4_E, _ => ⟨_, .set 4 (.reg .E)⟩
  | .set_4_H, _ => ⟨_, .set 4 (.reg .H)⟩ | .set_4_L, _ => ⟨_, .set 4 (.reg .L)⟩ | .set_4_mHL, _ => ⟨_, .set 4 .mHL⟩
  | .set_4_A, _ => ⟨_, .set 4 (.reg .A)⟩ | .set_5_B, _ => ⟨_, .set 5 (.reg .B)⟩
  | .set_5_C, _ => ⟨_, .set 5 (.reg .C)⟩ | .set_5_D, _ => ⟨_, .set 5 (.reg .D)⟩
  | .set_5_E, _ => ⟨_, .set 5 (.reg .E)⟩ | .set_5_H, _ => ⟨_, .set 5 (.reg .H)⟩
  | .set_5_L, _ => ⟨_, .set 5 (.reg .L)⟩ | .set_5_mHL, _ => ⟨_, .set 5 .mHL⟩ | .set_5_A, _ => ⟨_, .set 5 (.reg .A)⟩
  | .set_6_B, _ => ⟨_, .set 6 (.reg .B)⟩ | .set_6_C, _ => ⟨_, .set 6 (.reg .C)⟩
  | .set_6_D, _ => ⟨_, .set 6 (.reg .D)⟩ | .set_6_E, _ => ⟨_, .set 6 (.reg .E)⟩
  | .set_6_H, _ => ⟨_, .set 6 (.reg .H)⟩ | .set_6_L, _ => ⟨_, .set 6 (.reg .L)⟩ | .set_6_mHL, _ => ⟨_, .set 6 .mHL⟩
  | .set_6_A, _ => ⟨_, .set 6 (.reg .A)⟩ | .set_7_B, _ => ⟨_, .set 7 (.reg .B)⟩
  | .set_7_C, _ => ⟨_, .set 7 (.reg .C)⟩ | .set_7_D, _ => ⟨_, .set 7 (.reg .D)⟩
  | .set_7_E, _ => ⟨_, .set 7 (.reg .E)⟩ | .set_7_H, _ => ⟨_, .set 7 (.reg .H)⟩
  | .set_7_L, _ => ⟨_, .set 7 (.reg .L)⟩ | .set_7_mHL, _ => ⟨_, .set 7 .mHL⟩ | .set_7_A, _ => ⟨_, .set 7 (.reg .A)⟩

/-- Executing an instruction is completing its form's effect. -/
theorem Meaning.exec_eq {i : Instr} {eff : Exec Charge} (m : Meaning i eff) (s : State) :
    exec i s = complete i.row i.length eff s := by
  cases m
  case unsupported h =>
    simp only [Instr.unsupportedRows, Instr.removed, List.mem_cons, List.not_mem_nil, or_false] at h
    rcases h with rfl | rfl | rfl | rfl | rfl | rfl | rfl | rfl | rfl | rfl | rfl | rfl | rfl <;> rfl
  case ldRegReg d r => cases d <;> cases r <;> rfl
  case acc op src => cases op <;> rcases src with (_ | _) | _ <;> first | rfl | (rename_i r; cases r <;> rfl)
  case rot op o => cases op <;> rcases o with r | _ <;> first | rfl | (cases r <;> rfl)
  case bit b o => rcases o with r | _ <;> (try cases r) <;> (fin_cases b <;> rfl)
  case res b o => rcases o with r | _ <;> (try cases r) <;> (fin_cases b <;> rfl)
  case set b o => rcases o with r | _ <;> (try cases r) <;> (fin_cases b <;> rfl)
  case rst y => fin_cases y <;> rfl
  case ldRegImm d n => cases d <;> rfl
  case ldRegMem d => cases d <;> rfl
  case ldMemReg r => cases r <;> rfl
  case inc o => rcases o with r | _ <;> first | rfl | (cases r <;> rfl)
  case dec o => rcases o with r | _ <;> first | rfl | (cases r <;> rfl)
  case jpIf cc nn => cases cc <;> rfl
  case jrIf cc e => cases cc <;> rfl
  case callIf cc nn => cases cc <;> rfl
  case retIf cc => cases cc <;> rfl
  case ldReg16Imm r nn => rcases r with p | _ <;> first | rfl | (cases p <;> rfl)
  case push r => rcases r with p | _ <;> first | rfl | (cases p <;> rfl)
  case pop r => rcases r with p | _ <;> first | rfl | (cases p <;> rfl)
  case incReg16 r => rcases r with p | _ <;> first | rfl | (cases p <;> rfl)
  case decReg16 r => rcases r with p | _ <;> first | rfl | (cases p <;> rfl)
  case addHL r => rcases r with p | _ <;> first | rfl | (cases p <;> rfl)
  all_goals rfl

/-- The opcode an instruction's row reports (60_exceptions.md R502). -/
theorem Instr.opcode_eq (i : Instr) : i.opcode = opcodeByte i.row := by
  unfold Instr.row
  split
  · rename_i sub h; simp [Instr.opcode, h, opcodeByte]
  · rfl

/-- An instruction whose effect answers completes. -/
theorem Meaning.completes {i : Instr} {eff : Exec Charge} {s u : State} {ch : Charge} (m : Meaning i eff)
    (h : eff s = .ok ch u) : Completes i s ch u :=
  completes_of (m.exec_eq s) rfl i.opcode_eq rfl h

/-- An instruction whose effect raises takes the error. -/
theorem Meaning.raises {i : Instr} {eff : Exec Charge} {s u : State} {e : ErrorKind} (m : Meaning i eff)
    (h : eff s = .error e u) : Raises i s e u :=
  raises_of (m.exec_eq s) i.opcode_eq rfl h

/-- The two ways an instruction ends. -/
theorem Meaning.exec_cases {i : Instr} {eff : Exec Charge} {s t : State} (m : Meaning i eff) (h : exec i s = .next t) :
    (∃ ch u, eff s = .ok ch u ∧ Retires i (i.address s) ch u t) ∨
      (∃ e u, eff s = .error e u ∧ t = takeError e (some i.opcode) (i.address s) u) := by
  cases he : eff s with
  | ok ch u =>
    obtain ⟨t', ht', hr⟩ := m.completes he
    obtain rfl : t = t' := by rw [ht'] at h; cases h; rfl
    exact .inl ⟨ch, u, rfl, hr⟩
  | error e u =>
    have ht' : exec i s = .next (takeError e (some i.opcode) (i.address s) u) := m.raises he
    rw [ht'] at h; cases h
    exact .inr ⟨e, u, rfl, rfl⟩

/-- Whichever way an instruction ends, it keeps what its effect has left, the PPU, the clock and the outputs apart. -/
theorem Meaning.exec_ends {i : Instr} {eff : Exec Charge} {s t : State} (m : Meaning i eff) (h : exec i s = .next t) :
    Ends (eff.after s) t := by
  rcases m.exec_cases h with ⟨ch, u, he, hr⟩ | ⟨e, u, he, rfl⟩
  · rw [Exec.after, he]; exact hr.ends
  · rw [Exec.after, he]; exact ends_takeError _ _ _ _

/-- The row of the prefix is the one instruction that is not well formed. -/
theorem Instr.wellFormed_or (i : Instr) : i.wellFormed = true ∨ i = .prefix_CB := by
  cases i <;> first | exact .inl rfl | exact .inr rfl

/-- The form of the extended row of a second byte, by its fields (R111 to R114). -/
def extendedForm (sub : Byte) : Instr :=
  let o := operandOfCode (sub.toNat % 8)
  let b : Fin 8 := ⟨sub.toNat / 8 % 8, Nat.mod_lt _ (by decide)⟩
  match sub.toNat / 64 with
  | 0 => .rot (rotOpOfCode b.val) o
  | 1 => .bit b o
  | 2 => .res b o
  | _ => .set b o

/-- The forms of a row of the extended table: the second bytes with the high nibble `h`. -/
def extendedForms (h : Nat) : List Instr := (List.range 16).map fun l => extendedForm (BitVec.ofNat 8 (16 * h + l))

theorem extendedGrid_forms :
    (extendedGrid.toList.map Vector.toList) = (List.range 16).map extendedForms := by
  rfl

theorem extendedForms_encode :
    ((List.range 256).all fun n => (encode (extendedForm (BitVec.ofNat 8 n))).map (·.toNat) == [0xCB, n]) = true := by
  decide +kernel

/-- The extended table is laid out by the fields of the second byte (R111 to R114). -/
theorem extendedRow_eq (sub : Byte) : extendedRow sub = extendedForm sub := by
  have hh : sub.toNat / 16 < 16 := by have := sub.isLt; omega
  have hl : sub.toNat % 16 < 16 := Nat.mod_lt _ (by decide)
  have h := congrArg (fun g => g[sub.toNat / 16]?.bind (·[sub.toNat % 16]?)) extendedGrid_forms
  simp only [List.getElem?_map, List.getElem?_range hh, Option.map_some, Option.bind_some, extendedForms,
    List.getElem?_range hl, Nat.div_add_mod, BitVec.ofNat_toNat, BitVec.setWidth_eq] at h
  have e : (extendedGrid.toList[sub.toNat / 16]?.map Vector.toList).bind (·[sub.toNat % 16]?) =
      some (extendedRow sub) := by
    simp [extendedRow, nibbles, hh, hl]
  exact Option.some.inj (e.symm.trans h)

/-- An extended instruction is 0xCB and its second byte (R111). -/
theorem encode_extendedForm (sub : Byte) : encode (extendedForm sub) = [0xCB, sub] := by
  have h := List.all_eq_true.1 extendedForms_encode sub.toNat (List.mem_range.2 sub.isLt)
  rw [beq_iff_eq, BitVec.ofNat_toNat, BitVec.setWidth_eq] at h
  exact List.map_injective_iff.2 (fun _ _ => BitVec.eq_of_toNat_eq) h

/-- The form's effect is the one the row of the prefix runs (47_system.md R365). -/
theorem extendedForm_meaning (sub : Byte) : Meaning (extendedForm sub) (extendedEffect sub) := by
  unfold extendedForm extendedEffect
  split <;> simp only [*] <;> constructor

/-- The row of the prefix executes the extended row of the byte at `pc` (47_system.md R365). -/
theorem exec_prefix_CB (s : State) :
    exec .prefix_CB s =
      if s.unmappedAt s.pc then .next (takeError .memoryAccess (some 0xCB#8) (s.pc - 1) s)
      else exec (extendedForm (s.peek s.pc)) (s.setPc (s.pc + 1)) := by
  show execPrefix_CB s = _
  unfold execPrefix_CB
  cases h : s.unmappedAt s.pc
  · rw [fetch8_ok h, if_neg (by decide), (extendedForm_meaning _).exec_eq]
    simp only [Instr.row, Instr.length, encode_extendedForm]
    rfl
  · rw [fetch8_error h, if_pos rfl]
    rfl

end Sys2Proof
end

