-- ==== Sys2Proof/Laws/Decode.lean ====
section
/-! SUPPORT. The decoder's tables read by opcode byte: what each row gives encodes back to its byte, and what a row says of the
length. -/

namespace Sys2Proof

open Sys2Proof.Machine

/-- What the row of an opcode byte is (R100, R107): every instruction it gives is one, and encodes to the byte and its operand. -/
def RowSpec (op : Byte) : PrimaryRow → Prop
  | .bare i => encode i = [op] ∧ i.wellFormed = true
  | .imm8 f => ∀ n, encode (f n) = [op, n] ∧ (f n).wellFormed = true
  | .imm16 f => ∀ nn, encode (f nn) = [op, loByte nn, hiByte nn] ∧ (f nn).wellFormed = true
  | .ext => op = 0xCB

theorem primaryRow_spec (op : Byte) : RowSpec op (primaryRow op) := by
  have h : ∀ n : Fin 256, RowSpec (BitVec.ofFin n) (primaryRow (BitVec.ofFin n)) := by
    intro n
    fin_cases n <;> first | exact ⟨rfl, rfl⟩ | exact fun _ => ⟨rfl, rfl⟩ | exact rfl
  exact h op.toFin

/-- An extended row is an instruction of two bytes. -/
theorem extendedRow_spec (sub : Byte) : encode (extendedRow sub) = [0xCB, sub] ∧ (extendedRow sub).wellFormed = true := by
  rw [extendedRow_eq]
  refine ⟨encode_extendedForm sub, ?_⟩
  have h := encode_extendedForm sub
  cases hp : (extendedForm sub).isPrefix
  · simp [Instr.wellFormed, hp]
  · have : extendedForm sub = .prefix_CB := by
      revert hp
      generalize extendedForm sub = i
      cases i <;> first | exact fun h => Bool.noConfusion h | exact fun _ => rfl
    rw [this] at h
    cases h

/-- The number of bytes a row asks for after the opcode (R100). -/
def PrimaryRow.extra : PrimaryRow → Nat
  | .bare _ => 0
  | .imm8 _ => 1
  | .imm16 _ => 2
  | .ext => 1

end Sys2Proof
end

