-- ==== Sys2Proof/Laws/Effects.lean ====
section
/-! SUPPORT. Everything each shared effect can do, one equation an effect: what it answers, what it leaves, and where it raises.
Later proofs cite these instead of unfolding an effect. -/

namespace Sys2Proof.Machine

open EStateM (Result)

/-! ## Words on the bus and on the stack, in one equation -/

/-- A byte access in one equation (R62). -/
theorem readByte_eq (a : Word) (s : State) :
    readByte a s = if s.unmappedAt a then .error .memoryAccess s else .ok (s.peek a) s := rfl

theorem writeByte_eq (a : Word) (v : Byte) (s : State) :
    writeByte a v s = if s.unmappedAt a then .error .memoryAccess s else .ok () (s.poke a v) := rfl

/-- What a word store leaves: both bytes, or the low one if the high one raises, or nothing (R65, R507). -/
def wordStored (s : State) (a : Word) (v : Word) : State :=
  if s.unmappedAt a then s
  else if s.unmappedAt (a + 1) then s.poke a (loByte v)
  else (s.poke a (loByte v)).poke (a + 1) (hiByte v)

@[simp] theorem wordStored_regs (s : State) (a v : Word) : (wordStored s a v).regs = s.regs := by
  unfold wordStored; repeat' split
  all_goals simp

@[simp] theorem wordStored_flags (s : State) (a v : Word) : (wordStored s a v).flags = s.flags := by
  unfold wordStored; repeat' split
  all_goals simp

@[simp] theorem wordStored_sp (s : State) (a v : Word) : (wordStored s a v).sp = s.sp := by
  unfold wordStored; repeat' split
  all_goals simp

@[simp] theorem wordStored_pc (s : State) (a v : Word) : (wordStored s a v).pc = s.pc := by
  unfold wordStored; repeat' split
  all_goals simp

@[simp] theorem wordStored_interruptsEnabled (s : State) (a v : Word) : (wordStored s a v).interruptsEnabled = s.interruptsEnabled := by
  unfold wordStored; repeat' split
  all_goals simp

@[simp] theorem wordStored_running (s : State) (a v : Word) : (wordStored s a v).running = s.running := by
  unfold wordStored; repeat' split
  all_goals simp

@[simp] theorem wordStored_bootOverlay (s : State) (a v : Word) : (wordStored s a v).bootOverlay = s.bootOverlay := by
  unfold wordStored; repeat' split
  all_goals simp

@[simp] theorem wordStored_bootRom (s : State) (a v : Word) : (wordStored s a v).bootRom = s.bootRom := by
  unfold wordStored; repeat' split
  all_goals simp

@[simp] theorem wordStored_history (s : State) (a v : Word) : (wordStored s a v).history = s.history := by
  unfold wordStored; repeat' split
  all_goals simp

@[simp] theorem wordStored_clock (s : State) (a v : Word) : (wordStored s a v).clock = s.clock := by
  unfold wordStored; repeat' split
  all_goals simp

@[simp] theorem wordStored_log (s : State) (a v : Word) : (wordStored s a v).log = s.log := by
  unfold wordStored; repeat' split
  all_goals simp

@[simp] theorem wordStored_presents (s : State) (a v : Word) : (wordStored s a v).presents = s.presents := by
  unfold wordStored; repeat' split
  all_goals simp

@[simp] theorem wordStored_cfg (s : State) (a v : Word) : (wordStored s a v).cfg = s.cfg := by
  unfold wordStored; repeat' split
  all_goals simp

/-- A word store changes its two bytes at most (20_memory.md R65). -/
theorem wordStored_peek (s : State) {a b : Word} (v : Word) (h : b ≠ a) (h' : b ≠ a + 1) :
    (wordStored s a v).peek b = s.peek b := by
  unfold wordStored
  split
  · rfl
  · split
    · rw [State.peek_poke_ne _ _ h]
    · rw [State.peek_poke_ne _ _ h', State.peek_poke_ne _ _ h]

@[simp] theorem wordStored_reg (s : State) (a v : Word) (r : Reg8) : (wordStored s a v).reg r = s.reg r :=
  State.reg_congr (wordStored_regs s a v) r

/-- A property of states that every store keeps is kept by a word store. -/
theorem wordStored_of_poke {P : State → Prop} (hp : ∀ u a v, P u → P (u.poke a v)) {s : State} (a v : Word) (h : P s) :
    P (wordStored s a v) := by
  unfold wordStored
  repeat' split
  · exact h
  · exact hp _ _ _ h
  · exact hp _ _ _ (hp _ _ _ h)

theorem writeWord_eq (a : Word) (v : Word) (s : State) :
    writeWord a v s = if s.unmappedAt a || s.unmappedAt (a + 1) then .error .memoryAccess (wordStored s a v)
      else .ok () (wordStored s a v) := by
  unfold wordStored
  cases h₀ : s.unmappedAt a <;> cases h₁ : s.unmappedAt (a + 1)
  · simp [writeWord_ok v h₀ h₁]
  · simp [writeWord_error_high v h₀ h₁]
  · simp [writeWord_error_low v h₀]
  · simp [writeWord_error_low v h₀]

/-- The address of the second stack byte of a push. -/
theorem sub_two_add_one (a : Word) : a - 2 + 1 = a - 1 := by bv_omega

/-- What a push leaves (R234). -/
def pushed (s : State) (v : Word) : State := wordStored (s.setSp (s.sp - 2)) (s.sp - 2) v

@[simp] theorem pushed_regs (s : State) (v : Word) : (pushed s v).regs = s.regs := by
  simp [pushed]

@[simp] theorem pushed_flags (s : State) (v : Word) : (pushed s v).flags = s.flags := by
  simp [pushed]

@[simp] theorem pushed_pc (s : State) (v : Word) : (pushed s v).pc = s.pc := by
  simp [pushed]

@[simp] theorem pushed_interruptsEnabled (s : State) (v : Word) : (pushed s v).interruptsEnabled = s.interruptsEnabled := by
  simp [pushed]

@[simp] theorem pushed_running (s : State) (v : Word) : (pushed s v).running = s.running := by
  simp [pushed]

@[simp] theorem pushed_bootOverlay (s : State) (v : Word) : (pushed s v).bootOverlay = s.bootOverlay := by
  simp [pushed]

@[simp] theorem pushed_bootRom (s : State) (v : Word) : (pushed s v).bootRom = s.bootRom := by
  simp [pushed]

@[simp] theorem pushed_history (s : State) (v : Word) : (pushed s v).history = s.history := by
  simp [pushed]

@[simp] theorem pushed_clock (s : State) (v : Word) : (pushed s v).clock = s.clock := by
  simp [pushed]

@[simp] theorem pushed_log (s : State) (v : Word) : (pushed s v).log = s.log := by
  simp [pushed]

@[simp] theorem pushed_presents (s : State) (v : Word) : (pushed s v).presents = s.presents := by
  simp [pushed]

@[simp] theorem pushed_cfg (s : State) (v : Word) : (pushed s v).cfg = s.cfg := by
  simp [pushed]

@[simp] theorem pushed_sp (s : State) (v : Word) : (pushed s v).sp = s.sp - 2 := by
  simp [pushed]

@[simp] theorem pushed_reg (s : State) (v : Word) (r : Reg8) : (pushed s v).reg r = s.reg r :=
  State.reg_congr (pushed_regs s v) r

/-- A push changes its two stack bytes at most (R234). -/
theorem pushed_peek (s : State) {b : Word} (v : Word) (h : b ≠ s.sp - 2) (h' : b ≠ s.sp - 1) :
    (pushed s v).peek b = s.peek b := by
  rw [pushed, wordStored_peek _ _ h (by rw [sub_two_add_one]; exact h'), State.setSp_peek]

theorem pushWord_eq (v : Word) (s : State) :
    pushWord v s = if s.unmappedAt (s.sp - 2) || s.unmappedAt (s.sp - 1) then .error .memoryAccess (pushed s v)
      else .ok () (pushed s v) := by
  rw [← sub_two_add_one]
  simp only [pushWord, Exec.bind_apply, reads_apply, updates_apply, writeWord_eq, State.setSp_unmappedAt, pushed]

/-- What a push onto two mapped bytes leaves. -/
theorem pushed_of_mapped {s : State} (v : Word) (h₀ : s.unmappedAt (s.sp - 2) = false)
    (h₁ : s.unmappedAt (s.sp - 1) = false) :
    pushed s v = (({ s with sp := s.sp - 2 }.poke (s.sp - 2) (v.setWidth 8)).poke (s.sp - 1) ((v >>> 8).setWidth 8)) := by
  have e := sub_two_add_one s.sp
  simp only [pushed, wordStored, State.setSp_unmappedAt, e, h₀, h₁, Bool.false_eq_true, if_false, loByte_eq, hiByte_eq]
  rfl

theorem popWord_eq (s : State) :
    popWord s = if s.unmappedAt s.sp || s.unmappedAt (s.sp + 1) then .error .memoryAccess s
      else .ok (wordOf (s.peek (s.sp + 1)) (s.peek s.sp)) (s.setSp (s.sp + 2)) := by
  split
  · rename_i h; exact popWord_error h
  · rename_i h
    rw [Bool.not_eq_true, Bool.or_eq_false_iff] at h
    exact popWord_ok h.1 h.2

theorem modifyOperand_eq (o : Operand8) (f : Flags → Byte → Byte × Flags) (s : State) :
    modifyOperand o f s = if s.operandUnmapped o then .error .memoryAccess s
      else .ok () ((s.setFlags (f s.flags (s.operand o)).2).putOperand o (f s.flags (s.operand o)).1) := by
  cases h : s.operandUnmapped o
  · exact modifyOperand_ok f h
  · exact modifyOperand_error f h

/-! ## Operands -/

@[simp] theorem State.putOperand_flags (s : State) (o : Operand8) (v : Byte) :
    (s.putOperand o v).flags = s.flags := by
  cases o <;> simp [State.putOperand]

@[simp] theorem State.putOperand_sp (s : State) (o : Operand8) (v : Byte) :
    (s.putOperand o v).sp = s.sp := by
  cases o <;> simp [State.putOperand]

@[simp] theorem State.putOperand_pc (s : State) (o : Operand8) (v : Byte) :
    (s.putOperand o v).pc = s.pc := by
  cases o <;> simp [State.putOperand]

@[simp] theorem State.putOperand_interruptsEnabled (s : State) (o : Operand8) (v : Byte) :
    (s.putOperand o v).interruptsEnabled = s.interruptsEnabled := by
  cases o <;> simp [State.putOperand]

@[simp] theorem State.putOperand_running (s : State) (o : Operand8) (v : Byte) :
    (s.putOperand o v).running = s.running := by
  cases o <;> simp [State.putOperand]

@[simp] theorem State.putOperand_bootOverlay (s : State) (o : Operand8) (v : Byte) :
    (s.putOperand o v).bootOverlay = s.bootOverlay := by
  cases o <;> simp [State.putOperand]

@[simp] theorem State.putOperand_bootRom (s : State) (o : Operand8) (v : Byte) :
    (s.putOperand o v).bootRom = s.bootRom := by
  cases o <;> simp [State.putOperand]

@[simp] theorem State.putOperand_history (s : State) (o : Operand8) (v : Byte) :
    (s.putOperand o v).history = s.history := by
  cases o <;> simp [State.putOperand]

@[simp] theorem State.putOperand_clock (s : State) (o : Operand8) (v : Byte) :
    (s.putOperand o v).clock = s.clock := by
  cases o <;> simp [State.putOperand]

@[simp] theorem State.putOperand_log (s : State) (o : Operand8) (v : Byte) :
    (s.putOperand o v).log = s.log := by
  cases o <;> simp [State.putOperand]

@[simp] theorem State.putOperand_presents (s : State) (o : Operand8) (v : Byte) :
    (s.putOperand o v).presents = s.presents := by
  cases o <;> simp [State.putOperand]

@[simp] theorem State.putOperand_cfg (s : State) (o : Operand8) (v : Byte) :
    (s.putOperand o v).cfg = s.cfg := by
  cases o <;> simp [State.putOperand]

theorem State.putOperand_reg (s : State) (v : Byte) (q r : Reg8) :
    (s.putOperand (.reg q) v).reg r = if r = q then v else s.reg r := s.reg_setReg q r v

@[simp] theorem State.putOperand_mHL_reg (s : State) (v : Byte) (r : Reg8) : (s.putOperand .mHL v).reg r = s.reg r :=
  s.poke_reg _ v r

/-! ## The 8-bit loads (41_load8.md) -/

@[simp] theorem ldRegReg_eq (d r : Reg8) (s : State) : ldRegReg d r s = .ok ⟨true, 1⟩ (s.setReg d (s.reg r)) := rfl

@[simp] theorem ldRegImm_eq (d : Reg8) (n : Byte) (s : State) : ldRegImm d n s = .ok ⟨true, 2⟩ (s.setReg d n) := rfl

@[simp] theorem ldRegMem_eq (d : Reg8) (s : State) : ldRegMem d s = if s.unmappedAt (s.pair .HL) then .error .memoryAccess s
    else .ok ⟨true, 2⟩ (s.setReg d (s.peek (s.pair .HL))) := by
  simp only [ldRegMem, readOperand, Exec.bind_apply, reads_apply, readByte_eq]
  cases s.unmappedAt (s.pair .HL) <;> rfl

@[simp] theorem ldMemReg_eq (r : Reg8) (s : State) : ldMemReg r s = if s.unmappedAt (s.pair .HL) then .error .memoryAccess s
    else .ok ⟨true, 2⟩ (s.poke (s.pair .HL) (s.reg r)) := by
  simp only [ldMemReg, writeOperand, Exec.bind_apply, reads_apply, writeByte_eq]
  cases s.unmappedAt (s.pair .HL) <;> rfl

@[simp] theorem ldMemImm_eq (n : Byte) (s : State) : ldMemImm n s = if s.unmappedAt (s.pair .HL) then .error .memoryAccess s
    else .ok ⟨true, 3⟩ (s.poke (s.pair .HL) n) := by
  simp only [ldMemImm, writeOperand, Exec.bind_apply, reads_apply, writeByte_eq]
  cases s.unmappedAt (s.pair .HL) <;> rfl

@[simp] theorem loadA_eq (addr : State → Word) (c : Nat) (s : State) :
    loadA addr c s = if s.unmappedAt (addr s) then .error .memoryAccess s
      else .ok ⟨true, c⟩ (s.setReg .A (s.peek (addr s))) := by
  simp only [loadA, Exec.bind_apply, reads_apply, readByte_eq]
  cases s.unmappedAt (addr s) <;> rfl

@[simp] theorem storeA_eq (addr : State → Word) (c : Nat) (s : State) :
    storeA addr c s = if s.unmappedAt (addr s) then .error .memoryAccess s
      else .ok ⟨true, c⟩ (s.poke (addr s) (s.reg .A)) := by
  simp only [storeA, Exec.bind_apply, reads_apply, writeByte_eq]
  cases s.unmappedAt (addr s) <;> rfl

@[simp] theorem loadAMove_eq (move : Word → Word) (s : State) :
    loadAMove move s = if s.unmappedAt (s.pair .HL) then .error .memoryAccess s
      else .ok ⟨true, 2⟩ ((s.setReg .A (s.peek (s.pair .HL))).setPair .HL (move (s.pair .HL))) := by
  simp only [loadAMove, Exec.bind_apply, reads_apply, readByte_eq]
  cases s.unmappedAt (s.pair .HL) <;> rfl

@[simp] theorem storeAMove_eq (move : Word → Word) (s : State) :
    storeAMove move s = if s.unmappedAt (s.pair .HL) then .error .memoryAccess s
      else .ok ⟨true, 2⟩ ((s.poke (s.pair .HL) (s.reg .A)).setPair .HL (move (s.pair .HL))) := by
  simp only [storeAMove, Exec.bind_apply, reads_apply, writeByte_eq]
  cases s.unmappedAt (s.pair .HL)
  · exact congrArg (fun p => Result.ok (charge 2) (State.setPair _ .HL (move p))) (s.poke_pair _ _ _)
  · rfl

/-! ## The 16-bit loads and the stack (42_load16_stack.md) -/

@[simp] theorem ldReg16Imm_eq (r : Reg16) (nn : Word) (s : State) : ldReg16Imm r nn s = .ok ⟨true, 3⟩ (s.setReg16 r nn) := rfl

@[simp] theorem ldAbsSP_eq (nn : Word) (s : State) :
    ldAbsSP nn s = if s.unmappedAt nn || s.unmappedAt (nn + 1) then .error .memoryAccess (wordStored s nn s.sp)
      else .ok ⟨true, 5⟩ (wordStored s nn s.sp) := by
  simp only [ldAbsSP, Exec.bind_apply, reads_apply, writeWord_eq]
  cases s.unmappedAt nn || s.unmappedAt (nn + 1) <;> rfl

@[simp] theorem ldSPHL_eq (s : State) : ldSPHL s = .ok ⟨true, 2⟩ (s.setSp (s.pair .HL)) := rfl

@[simp] theorem ldHLSPe_eq (e : Byte) (s : State) :
    ldHLSPe e s = .ok ⟨true, 3⟩
      ((s.setFlags (Alu.addWords s.flags s.sp (sext16 e)).2).setPair .HL (Alu.addWords s.flags s.sp (sext16 e)).1) := rfl

@[simp] theorem push_eq (r : StackReg) (s : State) :
    push r s = if s.unmappedAt (s.sp - 2) || s.unmappedAt (s.sp - 1) then
        .error .memoryAccess (pushed s (s.stackReg r))
      else .ok ⟨true, 3⟩ (pushed s (s.stackReg r)) := by
  simp only [push, Exec.bind_apply, reads_apply, pushWord_eq]
  cases s.unmappedAt (s.sp - 2) || s.unmappedAt (s.sp - 1) <;> rfl

@[simp] theorem pop_eq (r : StackReg) (s : State) :
    pop r s = if s.unmappedAt s.sp || s.unmappedAt (s.sp + 1) then .error .memoryAccess s
      else .ok ⟨true, 3⟩ ((s.setSp (s.sp + 2)).setStackReg r (wordOf (s.peek (s.sp + 1)) (s.peek s.sp))) := by
  simp only [pop, Exec.bind_apply, popWord_eq]
  cases s.unmappedAt s.sp || s.unmappedAt (s.sp + 1) <;> rfl

/-! ## 8-bit arithmetic (43_arith8.md) -/

@[simp] theorem accumulate_eq (op : AccOp) (src : Source) (s : State) :
    accumulate op src s = if s.sourceUnmapped src then .error .memoryAccess s
      else .ok ⟨true, sourceCost src⟩
        ((s.setFlags (Alu.accumulate op s.flags (s.reg .A) (s.source src)).2).setReg .A
          (Alu.accumulate op s.flags (s.reg .A) (s.source src)).1) := by
  cases h : s.sourceUnmapped src
  · simp only [accumulate, Exec.bind_apply, readSource_ok h]; rfl
  · simp only [accumulate, Exec.bind_apply, readSource_error h]; rfl

@[simp] theorem incOperand_eq (o : Operand8) (s : State) :
    incOperand o s = if s.operandUnmapped o then .error .memoryAccess s
      else .ok ⟨true, operandCost 1 3 o⟩
        ((s.setFlags (Alu.incByte s.flags (s.operand o)).2).putOperand o (Alu.incByte s.flags (s.operand o)).1) := by
  simp only [incOperand, Exec.bind_apply, modifyOperand_eq]
  cases s.operandUnmapped o <;> rfl

@[simp] theorem decOperand_eq (o : Operand8) (s : State) :
    decOperand o s = if s.operandUnmapped o then .error .memoryAccess s
      else .ok ⟨true, operandCost 1 3 o⟩
        ((s.setFlags (Alu.decByte s.flags (s.operand o)).2).putOperand o (Alu.decByte s.flags (s.operand o)).1) := by
  simp only [decOperand, Exec.bind_apply, modifyOperand_eq]
  cases s.operandUnmapped o <;> rfl

@[simp] theorem modifyA_eq (f : Flags → Byte → Byte × Flags) (s : State) :
    modifyA f s = .ok ⟨true, 1⟩ ((s.setFlags (f s.flags (s.reg .A)).2).setReg .A (f s.flags (s.reg .A)).1) := rfl

@[simp] theorem setCarryFlag_eq (s : State) : setCarryFlag s = .ok ⟨true, 1⟩ (s.setFlags (Alu.setCarry s.flags)) := rfl

@[simp] theorem complementCarryFlag_eq (s : State) :
    complementCarryFlag s = .ok ⟨true, 1⟩ (s.setFlags { s.flags with
      fC := match s.cfg.ccfMode with
        | .toggle => !s.flags.fC
        | .clear => false }) := by
  simp only [complementCarryFlag, Exec.bind_apply, updates_apply]
  cases s.cfg.ccfMode
  · cases h : s.flags.fC <;> rfl
  · rfl

@[simp] theorem unsupported_eq (s : State) : unsupported s = .error .unsupportedOpcode s := rfl

/-! ## 16-bit arithmetic (44_arith16.md) -/

@[simp] theorem incReg16_eq (r : Reg16) (s : State) :
    incReg16 r s = .ok ⟨true, 1⟩
      ((s.setFlags (Alu.incWord s.flags (s.reg16 r)).2).setReg16 r (Alu.incWord s.flags (s.reg16 r)).1) := rfl

@[simp] theorem decReg16_eq (r : Reg16) (s : State) :
    decReg16 r s = .ok ⟨true, 1⟩
      ((s.setFlags (Alu.decWord s.flags (s.reg16 r)).2).setReg16 r (Alu.decWord s.flags (s.reg16 r)).1) := rfl

@[simp] theorem addHL_eq (r : Reg16) (s : State) :
    addHL r s = .ok ⟨true, 2⟩
      ((s.setFlags (Alu.addWords s.flags (s.pair .HL) (s.reg16 r)).2).setPair .HL
        (Alu.addWords s.flags (s.pair .HL) (s.reg16 r)).1) := rfl

@[simp] theorem addSPe_eq (e : Byte) (s : State) :
    addSPe e s = .ok ⟨true, 3⟩
      ((s.setFlags (Alu.addWords s.flags s.sp (sext16 e)).2).setSp (Alu.addWords s.flags s.sp (sext16 e)).1) := rfl

/-! ## Control transfer (45_control.md) -/

@[simp] theorem jump_eq (target : State → Word) (c : Nat) (s : State) : jump target c s = .ok ⟨true, c⟩ (s.setPc (target s)) := rfl

@[simp] theorem jumpIf_eq (cc : Cond) (nn : Word) (s : State) :
    jumpIf cc nn s = .ok ⟨s.flags.holds cc, 3⟩ (if s.flags.holds cc then s.setPc nn else s) := by
  simp only [jumpIf, Exec.bind_apply, reads_apply]
  cases s.flags.holds cc <;> rfl

@[simp] theorem jumpRelative_eq (e : Byte) (s : State) :
    jumpRelative e s = .ok ⟨true, 2⟩ (s.setPc (s.pc + e.signExtend 16)) := by
  rw [← relativeTarget_eq]; rfl

@[simp] theorem jumpRelativeIf_eq (cc : Cond) (e : Byte) (s : State) :
    jumpRelativeIf cc e s =
      .ok ⟨s.flags.holds cc, 2⟩ (if s.flags.holds cc then s.setPc (s.pc + e.signExtend 16) else s) := by
  simp only [jumpRelativeIf, Exec.bind_apply, reads_apply, ← relativeTarget_eq]
  cases s.flags.holds cc <;> rfl

theorem callTo_eq (t : Word) (s : State) :
    callTo t s = if s.unmappedAt (s.sp - 2) || s.unmappedAt (s.sp - 1) then .error .memoryAccess (pushed s s.pc)
      else .ok () ((pushed s s.pc).setPc t) := by
  simp only [callTo, Exec.bind_apply, reads_apply, pushWord_eq]
  cases s.unmappedAt (s.sp - 2) || s.unmappedAt (s.sp - 1) <;> rfl

@[simp] theorem call_eq (nn : Word) (s : State) :
    call nn s = if s.unmappedAt (s.sp - 2) || s.unmappedAt (s.sp - 1) then .error .memoryAccess (pushed s s.pc)
      else .ok ⟨true, 5⟩ ((pushed s s.pc).setPc nn) := by
  simp only [call, Exec.bind_apply, callTo_eq]
  cases s.unmappedAt (s.sp - 2) || s.unmappedAt (s.sp - 1) <;> rfl

@[simp] theorem callIf_eq (cc : Cond) (nn : Word) (s : State) :
    callIf cc nn s =
      if s.flags.holds cc then
        if s.unmappedAt (s.sp - 2) || s.unmappedAt (s.sp - 1) then .error .memoryAccess (pushed s s.pc)
        else .ok ⟨true, 5⟩ ((pushed s s.pc).setPc nn)
      else .ok ⟨false, 3⟩ s := by
  simp only [callIf, Exec.bind_apply, reads_apply]
  cases s.flags.holds cc
  · rfl
  · simp only [if_true, Exec.bind_apply, callTo_eq]
    cases s.unmappedAt (s.sp - 2) || s.unmappedAt (s.sp - 1) <;> rfl

@[simp] theorem restart_eq (t : Word) (s : State) :
    restart t s = if s.unmappedAt (s.sp - 2) || s.unmappedAt (s.sp - 1) then .error .memoryAccess (pushed s s.pc)
      else .ok ⟨true, 3⟩ ((pushed s s.pc).setPc t) := by
  simp only [restart, Exec.bind_apply, callTo_eq]
  cases s.unmappedAt (s.sp - 2) || s.unmappedAt (s.sp - 1) <;> rfl

/-- What a pop into `pc` from two mapped bytes leaves (R308). -/
def poppedPc (s : State) : State := { s with pc := s.peek (s.sp + 1) ++ s.peek s.sp, sp := s.sp + 2 }

@[simp] theorem poppedPc_regs (s : State) : (poppedPc s).regs = s.regs := rfl

@[simp] theorem poppedPc_flags (s : State) : (poppedPc s).flags = s.flags := rfl

@[simp] theorem poppedPc_interruptsEnabled (s : State) : (poppedPc s).interruptsEnabled = s.interruptsEnabled := rfl

@[simp] theorem poppedPc_running (s : State) : (poppedPc s).running = s.running := rfl

@[simp] theorem poppedPc_bootOverlay (s : State) : (poppedPc s).bootOverlay = s.bootOverlay := rfl

@[simp] theorem poppedPc_bootRom (s : State) : (poppedPc s).bootRom = s.bootRom := rfl

@[simp] theorem poppedPc_history (s : State) : (poppedPc s).history = s.history := rfl

@[simp] theorem poppedPc_clock (s : State) : (poppedPc s).clock = s.clock := rfl

@[simp] theorem poppedPc_log (s : State) : (poppedPc s).log = s.log := rfl

@[simp] theorem poppedPc_presents (s : State) : (poppedPc s).presents = s.presents := rfl

@[simp] theorem poppedPc_cfg (s : State) : (poppedPc s).cfg = s.cfg := rfl

@[simp] theorem poppedPc_mem (s : State) : (poppedPc s).mem = s.mem := rfl

@[simp] theorem poppedPc_ppu (s : State) : (poppedPc s).ppu = s.ppu := rfl

@[simp] theorem poppedPc_reg (s : State) (r : Reg8) : (poppedPc s).reg r = s.reg r := State.reg_congr rfl r

@[simp] theorem poppedPc_peek (s : State) (a : Word) : (poppedPc s).peek a = s.peek a := rfl

theorem popPc_eq (s : State) :
    popPc s = if s.unmappedAt s.sp || s.unmappedAt (s.sp + 1) then .error .memoryAccess s else .ok () (poppedPc s) := by
  simp only [popPc, Exec.bind_apply, popWord_eq]
  cases s.unmappedAt s.sp || s.unmappedAt (s.sp + 1) <;> rfl

@[simp] theorem ret_eq (s : State) :
    ret s = if s.unmappedAt s.sp || s.unmappedAt (s.sp + 1) then .error .memoryAccess s
      else .ok ⟨true, 4⟩ (poppedPc s) := by
  simp only [ret, Exec.bind_apply, popPc_eq]
  cases s.unmappedAt s.sp || s.unmappedAt (s.sp + 1) <;> rfl

@[simp] theorem retIf_eq (cc : Cond) (s : State) :
    retIf cc s =
      if s.flags.holds cc then
        if s.unmappedAt s.sp || s.unmappedAt (s.sp + 1) then .error .memoryAccess s else .ok ⟨true, 5⟩ (poppedPc s)
      else .ok ⟨false, 3⟩ s := by
  simp only [retIf, Exec.bind_apply, reads_apply]
  cases s.flags.holds cc
  · rfl
  · simp only [if_true, Exec.bind_apply, popPc_eq]
    cases s.unmappedAt s.sp || s.unmappedAt (s.sp + 1) <;> rfl

@[simp] theorem reti_eq (s : State) :
    reti s = if s.unmappedAt s.sp || s.unmappedAt (s.sp + 1) then .error .memoryAccess s
      else .ok ⟨true, 4⟩ { poppedPc s with interruptsEnabled := true } := by
  simp only [reti, Exec.bind_apply, popPc_eq]
  cases s.unmappedAt s.sp || s.unmappedAt (s.sp + 1) <;> rfl

/-! ## The extended table (46_cb.md) -/

@[simp] theorem rotateOperand_eq (op : RotOp) (o : Operand8) (s : State) :
    rotateOperand op o s = if s.operandUnmapped o then .error .memoryAccess s
      else .ok ⟨true, operandCost 2 4 o⟩
        ((s.setFlags (Alu.rotate op s.flags (s.operand o)).2).putOperand o
          (Alu.rotate op s.flags (s.operand o)).1) := by
  simp only [rotateOperand, Exec.bind_apply, modifyOperand_eq]
  cases s.operandUnmapped o <;> rfl

@[simp] theorem testBit_eq (b : Fin 8) (o : Operand8) (s : State) :
    testBit b o s = if s.operandUnmapped o then .error .memoryAccess s
      else .ok ⟨true, operandCost 2 3 o⟩ (s.setFlags (Alu.bitTest s.flags b (s.operand o))) := by
  cases h : s.operandUnmapped o
  · simp only [testBit, Exec.bind_apply, readOperand_ok h]; rfl
  · simp only [testBit, Exec.bind_apply, readOperand_error h]; rfl

@[simp] theorem clearBit_eq (b : Fin 8) (o : Operand8) (s : State) :
    clearBit b o s = if s.operandUnmapped o then .error .memoryAccess s
      else .ok ⟨true, operandCost 2 4 o⟩ (s.putOperand o (Alu.resetBit b (s.operand o))) := by
  simp only [clearBit, Exec.bind_apply, modifyOperand_eq]
  cases s.operandUnmapped o <;> rfl

@[simp] theorem raiseBit_eq (b : Fin 8) (o : Operand8) (s : State) :
    raiseBit b o s = if s.operandUnmapped o then .error .memoryAccess s
      else .ok ⟨true, operandCost 2 4 o⟩ (s.putOperand o (Alu.setBit b (s.operand o))) := by
  simp only [raiseBit, Exec.bind_apply, modifyOperand_eq]
  cases s.operandUnmapped o <;> rfl

/-! ## System instructions (47_system.md) -/

@[simp] theorem nop_eq (s : State) : nop s = .ok ⟨true, 1⟩ s := rfl

@[simp] theorem stop_eq (s : State) : stop s = .ok ⟨true, 1⟩ { s with running := false } := rfl

@[simp] theorem halt_eq (s : State) : halt s = .ok ⟨true, 1⟩ (s.setPc (s.pc - 1)) := rfl

@[simp] theorem setInterrupts_eq (on : Bool) (s : State) :
    setInterrupts on s = .ok ⟨true, 1⟩ { s with interruptsEnabled := on } := rfl

end Sys2Proof.Machine
end

