-- ==== Sys2Proof/Laws/Frame.lean ====
section
/-! SUPPORT. What no effect touches, whichever way it ends, and how that reaches the executed instruction. -/

namespace Sys2Proof

open Sys2Proof.Machine

/-- Executing any row, the prefix among them, ends what some form's effect has left, or is the prefix's failing fetch. -/
theorem exec_ends {i : Instr} {s t : State} (h : exec i s = .next t) :
    (∃ j eff u, Meaning j eff ∧ Ends (eff.after u) t ∧
      ((j = i ∧ u = s) ∨ (i = .prefix_CB ∧ j = extendedForm (s.peek s.pc) ∧ u = s.setPc (s.pc + 1)))) ∨
    (i = .prefix_CB ∧ t = takeError .memoryAccess (some 0xCB#8) (s.pc - 1) s) := by
  rcases i.wellFormed_or with hw | rfl
  · obtain ⟨eff, m⟩ := i.form hw
    exact .inl ⟨i, eff, s, m, m.exec_ends h, .inl ⟨rfl, rfl⟩⟩
  · rw [exec_prefix_CB] at h
    split at h
    · cases h; exact .inr ⟨rfl, rfl⟩
    · have m := extendedForm_meaning (s.peek s.pc)
      exact .inl ⟨_, _, _, m, m.exec_ends h, .inr ⟨rfl, rfl, rfl⟩⟩

/-- An extended form is none of the instructions outside the extended table. -/
theorem extendedForm_ne (sub : Byte) {i : Instr} (h : i.length ≠ 2 ∨ i.opcode ≠ 0xCB) : extendedForm sub ≠ i := by
  rintro rfl
  simp [Instr.length, Instr.opcode, encode_extendedForm] at h

/-- No effect touches the boot overlay, the boot program, the parameters or the history. -/
theorem Meaning.after_frame {i : Instr} {eff : Exec Charge} (m : Meaning i eff) (s : State) :
    (eff.after s).bootOverlay = s.bootOverlay ∧ (eff.after s).bootRom = s.bootRom ∧ (eff.after s).cfg = s.cfg ∧
      (eff.after s).history = s.history ∧ (eff.after s).log = s.log ∧ (eff.after s).presents = s.presents ∧
      (eff.after s).clock = s.clock := by
  cases m
  all_goals
    simp [Exec.after]
    try (repeat' split) <;> simp

/-- Only `STOP` touches `running`. -/
theorem Meaning.after_running {i : Instr} {eff : Exec Charge} (m : Meaning i eff) (s : State) (hi : i ≠ .stop) :
    (eff.after s).running = s.running := by
  cases m
  case stop => exact absurd rfl hi
  all_goals
    simp [Exec.after]
    try (repeat' split) <;> simp

/-- Only `EI`, `DI` and `RETI` touch `interruptsEnabled`. -/
theorem Meaning.after_interruptsEnabled {i : Instr} {eff : Exec Charge} (m : Meaning i eff) (s : State) (h₁ : i ≠ .ei)
    (h₂ : i ≠ .di) (h₃ : i ≠ .reti) : (eff.after s).interruptsEnabled = s.interruptsEnabled := by
  cases m
  case ei => exact absurd rfl h₁
  case di => exact absurd rfl h₂
  case reti => exact absurd rfl h₃
  all_goals
    simp [Exec.after]
    try (repeat' split) <;> simp

theorem putOperand_of_poke {P : Memory → Prop} (hp : ∀ (u : State) a v, P u.mem → P (u.poke a v).mem) {s : State}
    (o : Operand8) (v : Byte) (h : P s.mem) : P (s.putOperand o v).mem := by
  cases o
  · simpa [State.putOperand] using h
  · exact hp _ _ _ h

/-- What every store keeps of the memory, every effect keeps. -/
theorem Meaning.after_mem {i : Instr} {eff : Exec Charge} (m : Meaning i eff) {P : Memory → Prop}
    (hp : ∀ (u : State) a v, P u.mem → P (u.poke a v).mem) {s : State} (h : P s.mem) : P (eff.after s).mem := by
  have hw (u : State) (a v : Word) (hu : P u.mem) : P (wordStored u a v).mem :=
    wordStored_of_poke (P := fun u => P u.mem) hp a v hu
  have hq (u : State) (v : Word) (hu : P u.mem) : P (pushed u v).mem := hw _ _ _ hu
  have ho (u : State) (o : Operand8) (v : Byte) (hu : P u.mem) : P (u.putOperand o v).mem :=
    putOperand_of_poke hp o v hu
  cases m
  all_goals
    simp only [Exec.after, ldRegReg_eq, ldRegImm_eq, ldRegMem_eq, ldMemReg_eq, ldMemImm_eq, loadA_eq, storeA_eq,
      loadAMove_eq, storeAMove_eq, ldReg16Imm_eq, ldAbsSP_eq, ldSPHL_eq, ldHLSPe_eq, push_eq, pop_eq, accumulate_eq,
      incOperand_eq, decOperand_eq, modifyA_eq, setCarryFlag_eq, complementCarryFlag_eq, unsupported_eq, incReg16_eq,
      decReg16_eq, addHL_eq, addSPe_eq, jump_eq, jumpIf_eq, jumpRelative_eq, jumpRelativeIf_eq, call_eq, callIf_eq,
      restart_eq, ret_eq, retIf_eq, reti_eq, rotateOperand_eq, testBit_eq, clearBit_eq, raiseBit_eq, nop_eq, stop_eq,
      halt_eq, setInterrupts_eq, stateOf_ok, stateOf_error, stateOf_ite]
    repeat' split
    all_goals
      try simp only [State.setReg_mem, State.setPair_mem, State.setReg16_mem, State.setFlags_mem, State.setSp_mem,
        State.setPc_mem, State.setStackReg_mem, poppedPc_mem]
      first
        | exact h
        | exact hp _ _ _ h
        | exact hw _ _ _ h
        | exact hq _ _ h
        | exact ho _ _ _ h

end Sys2Proof
end

