-- ==== Sys2Proof/Laws/Step.lean ====
section
/-! SUPPORT. Everything the fetch part of a step can do (60_exceptions.md R500 steps 1 to 4), one equation a function. -/

namespace Sys2Proof.Machine

/-- The operand fetch in one equation (30_encoding.md R116): where it raises, `pc` stands at the byte that could not be fetched. -/
theorem fetchOperands_eq (op : Byte) (t : State) :
    fetchOperands op t =
      match primaryRow op with
      | .bare i => .ok i t
      | .imm8 f =>
        if t.unmappedAt t.pc then .error .memoryAccess t else .ok (f (t.peek t.pc)) (t.setPc (t.pc + 1))
      | .imm16 f =>
        if t.unmappedAt t.pc then .error .memoryAccess t
        else if t.unmappedAt (t.pc + 1) then .error .memoryAccess (t.setPc (t.pc + 1))
        else .ok (f (wordOf (t.peek (t.pc + 1)) (t.peek t.pc))) (t.setPc (t.pc + 2))
      | .ext =>
        if t.unmappedAt t.pc then .error .memoryAccess t
        else .ok (extendedRow (t.peek t.pc)) (t.setPc (t.pc + 1)) := by
  unfold fetchOperands
  cases primaryRow op with
  | bare i => rfl
  | imm8 f =>
    simp only
    cases h : t.unmappedAt t.pc
    · rw [Exec.bind_ok (fetch8_ok h)]; rfl
    · rw [Exec.bind_error (fetch8_error h)]; rfl
  | imm16 f =>
    simp only
    cases h : t.unmappedAt t.pc
    · cases h₁ : t.unmappedAt (t.pc + 1)
      · rw [Exec.bind_ok (fetch16_ok h h₁)]; rfl
      · have hf : fetch16 t = .error .memoryAccess (t.setPc (t.pc + 1)) := by
          unfold fetch16
          rw [Exec.bind_ok (fetch8_ok h), Exec.bind_error (fetch8_error (by simpa using h₁))]
        rw [Exec.bind_error hf]; rfl
    · have hf : fetch16 t = .error .memoryAccess t := by
        unfold fetch16
        rw [Exec.bind_error (fetch8_error h)]
      rw [Exec.bind_error hf]; rfl
  | ext =>
    simp only
    cases h : t.unmappedAt t.pc
    · rw [Exec.bind_ok (fetch8_ok h)]; rfl
    · rw [Exec.bind_error (fetch8_error h)]; rfl

/-- The state once the opcode byte has been fetched and its history entry made. -/
def opcodeFetched (s : State) : State :=
  ((leaveBoot s).setPc (s.pc + 1)).record s.pc ((leaveBoot s).peek s.pc)

/-- Steps 1 to 4 in one equation: a failing opcode fetch, then the operand fetch (R500, R505, R509). -/
theorem fetchInstr_eq (s : State) :
    fetchInstr s =
      if s.unmappedAt s.pc then .error (takeError .memoryAccess none s.pc (leaveBoot s))
      else match fetchOperands ((leaveBoot s).peek s.pc) (opcodeFetched s) with
        | .error e u => .error (takeError e (some ((leaveBoot s).peek s.pc)) s.pc u)
        | .ok i u => .ok (i, u) := by
  unfold fetchInstr
  cases h : s.unmappedAt s.pc
  · have hf := fetch8_ok (s := leaveBoot s) (by simpa using h)
    simp only [hf, leaveBoot_pc]
    rfl
  · have hf := fetch8_error (s := leaveBoot s) (by simpa using h)
    simp only [hf, leaveBoot_pc]
    rfl

theorem step_of_running {s : State} (h : s.running = true) :
    step s = match fetchInstr s with
      | .ok (i, t) => exec i t
      | .error t => .next t := by
  unfold step
  exact if_pos h

theorem step_of_not_running {s : State} (h : s.running = false) : step s = .next s := by
  simp [step, h]

end Sys2Proof.Machine
end

