-- ==== Sys2Proof/Laws/Gate.lean ====
section
/-! SUPPORT. Nothing but the interrupt sample reads `interruptsEnabled`, and nothing reads the log (10_state.md R29, R38): what an
operation does to a state with another enable and another log is what it does to the state, with its own enable and log. And what a
fetched instruction is: its address, its opcode, its history. -/

namespace Sys2Proof.Machine

/-- The state with another interrupt enable and another log. -/
def State.gated (s : State) (on : Bool) (l : List LogRecord) : State := { s with interruptsEnabled := on, log := l }

section Gated

variable (s : State) (on : Bool) (l : List LogRecord)

@[simp] theorem State.gated_setReg (r : Reg8) (v : Byte) : (s.gated on l).setReg r v = (s.setReg r v).gated on l := by
  cases r <;> rfl

@[simp] theorem State.gated_setPair (p : Pair) (v : Word) : (s.gated on l).setPair p v = (s.setPair p v).gated on l := by
  cases p <;> rfl

@[simp] theorem State.gated_setFlags (f : Flags) : (s.gated on l).setFlags f = (s.setFlags f).gated on l := rfl

@[simp] theorem State.gated_setSp (v : Word) : (s.gated on l).setSp v = (s.setSp v).gated on l := rfl

@[simp] theorem State.gated_setPc (v : Word) : (s.gated on l).setPc v = (s.setPc v).gated on l := rfl

@[simp] theorem State.gated_setReg16 (r : Reg16) (v : Word) : (s.gated on l).setReg16 r v = (s.setReg16 r v).gated on l := by
  cases r <;> simp [State.setReg16]

@[simp] theorem State.gated_setStackReg (r : StackReg) (v : Word) :
    (s.gated on l).setStackReg r v = (s.setStackReg r v).gated on l := by
  cases r <;> simp [State.setStackReg]

@[simp] theorem State.gated_poke (a : Word) (v : Byte) : (s.gated on l).poke a v = (s.poke a v).gated on l := by
  unfold State.poke
  split
  · rfl
  · dsimp only [State.gated]; split <;> rfl

@[simp] theorem State.gated_record (a : Word) (op : Byte) : (s.gated on l).record a op = (s.record a op).gated on l := rfl

@[simp] theorem State.gated_peek (a : Word) : (s.gated on l).peek a = s.peek a := rfl

@[simp] theorem State.gated_unmappedAt (a : Word) : (s.gated on l).unmappedAt a = s.unmappedAt a := rfl

@[simp] theorem State.gated_reg (r : Reg8) : (s.gated on l).reg r = s.reg r := by cases r <;> rfl

@[simp] theorem State.gated_pair (p : Pair) : (s.gated on l).pair p = s.pair p := by cases p <;> rfl

@[simp] theorem State.gated_flags : (s.gated on l).flags = s.flags := rfl

@[simp] theorem State.gated_sp : (s.gated on l).sp = s.sp := rfl

@[simp] theorem State.gated_pc : (s.gated on l).pc = s.pc := rfl

@[simp] theorem State.gated_cfg : (s.gated on l).cfg = s.cfg := rfl

@[simp] theorem State.gated_running : (s.gated on l).running = s.running := rfl

@[simp] theorem State.gated_reg16 (r : Reg16) : (s.gated on l).reg16 r = s.reg16 r := by cases r <;> simp [State.reg16]

@[simp] theorem State.gated_stackReg (r : StackReg) : (s.gated on l).stackReg r = s.stackReg r := by
  cases r <;> simp [State.stackReg]

@[simp] theorem State.gated_operand (o : Operand8) : (s.gated on l).operand o = s.operand o := by cases o <;> rfl

@[simp] theorem State.gated_operandUnmapped (o : Operand8) : (s.gated on l).operandUnmapped o = s.operandUnmapped o := by
  cases o <;> rfl

@[simp] theorem State.gated_putOperand (o : Operand8) (v : Byte) :
    (s.gated on l).putOperand o v = (s.putOperand o v).gated on l := by
  cases o
  · simp [State.putOperand]
  · simp only [State.putOperand, State.gated_pair, State.gated_poke]

@[simp] theorem State.gated_source (src : Source) : (s.gated on l).source src = s.source src := by
  cases src <;> simp [State.source]

@[simp] theorem State.gated_sourceUnmapped (src : Source) : (s.gated on l).sourceUnmapped src = s.sourceUnmapped src := by
  cases src <;> simp [State.sourceUnmapped]

@[simp] theorem wordStored_gated (a v : Word) : wordStored (s.gated on l) a v = (wordStored s a v).gated on l := by
  unfold wordStored
  simp only [State.gated_unmappedAt, State.gated_poke]
  repeat' split
  all_goals rfl

@[simp] theorem pushed_gated (v : Word) : pushed (s.gated on l) v = (pushed s v).gated on l := by simp [pushed]

@[simp] theorem poppedPc_gated : poppedPc (s.gated on l) = (poppedPc s).gated on l := rfl

@[simp] theorem leaveBoot_gated : leaveBoot (s.gated on l) = (leaveBoot s).gated on l := by
  unfold leaveBoot
  by_cases h : s.pc = 0x0100#16
  · simp only [State.gated_pc, h, if_true]; rfl
  · simp only [State.gated_pc, h, if_false]

@[simp] theorem opcodeFetched_gated : opcodeFetched (s.gated on l) = (opcodeFetched s).gated on l := by
  simp [opcodeFetched]

/-- An operand fetch reads neither the enable nor the log. -/
theorem fetchOperands_gated (op : Byte) :
    fetchOperands op (s.gated on l) = match fetchOperands op s with
      | .ok i t => .ok i (t.gated on l)
      | .error e t => .error e (t.gated on l) := by
  simp only [fetchOperands_eq, State.gated_pc, State.gated_unmappedAt, State.gated_peek, State.gated_setPc]
  split
  · rfl
  · by_cases h : s.unmappedAt s.pc = true <;> simp [h]
  · by_cases h : s.unmappedAt s.pc = true <;> by_cases h' : s.unmappedAt (s.pc + 1) = true <;>
      simp only [h, h', if_true, Bool.false_eq_true, if_false]
  · by_cases h : s.unmappedAt s.pc = true <;> simp [h]

end Gated

/-! ## The fetched instruction -/

/-- What the operand fetch leaves: `pc` moved by the instruction's bytes after the first, and nothing else. -/
theorem fetchOperands_ok {op : Byte} {t u : State} {i : Instr} (h : fetchOperands op t = .ok i u) :
    i.wellFormed = true ∧ i.opcode = op ∧ u = t.setPc (t.pc + BitVec.ofNat 16 (i.length - 1)) := by
  have hs := primaryRow_spec op
  rw [fetchOperands_eq] at h
  split at h
  · rename_i hr
    rw [hr] at hs
    cases h
    refine ⟨hs.2, by simp [Instr.opcode, hs.1], ?_⟩
    simp [Instr.length, hs.1, State.setPc]
  · rename_i hr
    rw [hr] at hs
    split at h
    · cases h
    · cases h
      exact ⟨(hs _).2, by simp [Instr.opcode, (hs _).1], by simp [Instr.length, (hs _).1]⟩
  · rename_i hr
    rw [hr] at hs
    split at h
    · cases h
    · split at h
      · cases h
      · cases h
        obtain ⟨he, hw⟩ := hs (wordOf (t.peek (t.pc + 1)) (t.peek t.pc))
        exact ⟨hw, by rw [Instr.opcode, he]; rfl, by rw [Instr.length, he]; rfl⟩
  · rename_i hr
    rw [hr] at hs
    obtain rfl : op = 0xCB := hs
    split at h
    · cases h
    · cases h
      obtain ⟨he, hw⟩ := extendedRow_spec (t.peek t.pc)
      exact ⟨hw, by simp [Instr.opcode, he], by simp [Instr.length, he]⟩

/-- What a successful fetch gives (60_exceptions.md R500 steps 1 to 4): the instruction at `pc`, in a state that differs from the
one before in `pc`, the history and the overlay alone. -/
theorem fetchInstr_ok {s u : State} {i : Instr} (h : fetchInstr s = .ok (i, u)) :
    i.wellFormed = true ∧ i.opcode = (leaveBoot s).peek s.pc ∧ i.address u = s.pc ∧
      u = (opcodeFetched s).setPc (s.pc + 1 + BitVec.ofNat 16 (i.length - 1)) := by
  rw [fetchInstr_eq] at h
  split at h
  · cases h
  · cases hf : fetchOperands ((leaveBoot s).peek s.pc) (opcodeFetched s) with
    | error e v => rw [hf] at h; cases h
    | ok j v =>
      rw [hf] at h; cases h
      obtain ⟨hw, ho, rfl⟩ := fetchOperands_ok hf
      refine ⟨hw, ho, ?_, rfl⟩
      have hl : 0 < i.length := by
        unfold Instr.length
        cases i <;> exact Nat.succ_pos _
      have e : (1 : Word) + BitVec.ofNat 16 (i.length - 1) = BitVec.ofNat 16 i.length := by
        rw [show (1 : Word) = BitVec.ofNat 16 1 from rfl, ← BitVec.ofNat_add, Nat.add_sub_cancel' hl]
      show s.pc + 1 + BitVec.ofNat 16 (i.length - 1) - BitVec.ofNat 16 i.length = s.pc
      rw [BitVec.add_assoc, e, BitVec.add_sub_cancel]

/-- A failing fetch reads neither the enable nor the log; it appends one record. -/
theorem fetchInstr_gated (s : State) (on : Bool) (l : List LogRecord) :
    (∃ i u, fetchInstr s = .ok (i, u) ∧ fetchInstr (s.gated on l) = .ok (i, u.gated on l)) ∨
    (∃ e op a u, fetchInstr s = .error (takeError e op a u) ∧ u.interruptsEnabled = s.interruptsEnabled ∧ u.log = s.log ∧
      fetchInstr (s.gated on l) = .error (takeError e op a (u.gated on l))) := by
  simp only [fetchInstr_eq, State.gated_unmappedAt, State.gated_pc, leaveBoot_gated, State.gated_peek, opcodeFetched_gated,
    fetchOperands_gated]
  split
  · exact .inr ⟨_, _, _, _, rfl, by simp, by simp, rfl⟩
  · cases hf : fetchOperands ((leaveBoot s).peek s.pc) (opcodeFetched s) with
    | ok i u => exact .inl ⟨i, u, rfl, rfl⟩
    | error e u =>
      have hu : u.interruptsEnabled = s.interruptsEnabled ∧ u.log = s.log := by
        rw [fetchOperands_eq] at hf
        revert hf
        repeat' split
        all_goals intro hf; cases hf
        all_goals simp [opcodeFetched]
      exact .inr ⟨_, _, _, u, rfl, hu.1, hu.2, rfl⟩

end Sys2Proof.Machine

namespace Sys2Proof

open Sys2Proof.Machine

/-- No effect reads the enable or the log. -/
theorem Meaning.gated {i : Instr} {eff : Exec Charge} (m : Meaning i eff) (s : State) (on : Bool) (l : List LogRecord) :
    ∃ on', eff (s.gated on l) = match eff s with
      | .ok ch t => .ok ch (t.gated on' l)
      | .error e t => .error e (t.gated on' l) := by
  cases m
  case reti =>
    simp only [reti_eq, State.gated_unmappedAt, State.gated_sp, poppedPc_gated]
    by_cases h : (s.unmappedAt s.sp || s.unmappedAt (s.sp + 1)) = true
    · exact ⟨on, by simp only [h, if_true]⟩
    · exact ⟨true, by simp only [h]; rfl⟩
  case di => exact ⟨false, rfl⟩
  case ei => exact ⟨true, rfl⟩
  all_goals refine ⟨on, ?_⟩
  case jpIf cc nn => by_cases h : s.flags.holds cc = true <;> simp [h]
  case jrIf cc e => by_cases h : s.flags.holds cc = true <;> simp [h]
  case callIf cc nn =>
    by_cases h : s.flags.holds cc = true
    · simp [h]
      split <;> rfl
    · simp [h]
  case retIf cc =>
    by_cases h : s.flags.holds cc = true
    · simp [h]
      split <;> rfl
    · simp [h]
  all_goals
    simp
    try first | rfl | (split <;> rfl)

end Sys2Proof
end

