-- ==== Sys2Proof/Laws/PerInstr.lean ====
section
/-! SUPPORT. The per-instruction family `TableRow`: the rows of the decode tables at an instruction's bytes give the instruction. -/

namespace Sys2Proof

open Sys2Proof.Machine

/-- The row of the tables of 30_encoding.md R107 and R114 that the bytes of `i` select is the row of `i`, with the operand of its
bytes; the bare prefix selects the row that goes on to the extended table. -/
def Laws.TableRow.Statement (i : Instr) : Prop :=
  (∃ op, encode i = [op] ∧ primaryRow op = .bare i) ∨
  (∃ op f n, encode i = [op, n] ∧ primaryRow op = .imm8 f ∧ f n = i) ∨
  (∃ op f nn, encode i = [op, loByte nn, hiByte nn] ∧ primaryRow op = .imm16 f ∧ f nn = i) ∨
  (∃ sub, encode i = [0xCB#8, sub] ∧ primaryRow 0xCB#8 = .ext ∧ extendedRow sub = i) ∨
  (i = .prefix_CB ∧ encode i = [0xCB#8] ∧ primaryRow 0xCB#8 = .ext)

namespace Laws.TableRow

theorem nop : Statement .nop := .inl ⟨_, rfl, rfl⟩
theorem ld_BC_nn (nn : Word) : Statement (.ld_BC_nn nn) := .inr (.inr (.inl ⟨_, _, _, rfl, rfl, rfl⟩))
theorem ld_mBC_A : Statement .ld_mBC_A := .inl ⟨_, rfl, rfl⟩
theorem inc_BC : Statement .inc_BC := .inl ⟨_, rfl, rfl⟩
theorem inc_B : Statement .inc_B := .inl ⟨_, rfl, rfl⟩
theorem dec_B : Statement .dec_B := .inl ⟨_, rfl, rfl⟩
theorem ld_B_n (n : Byte) : Statement (.ld_B_n n) := .inr (.inl ⟨_, _, _, rfl, rfl, rfl⟩)
theorem rlca : Statement .rlca := .inl ⟨_, rfl, rfl⟩
theorem ld_mNN_SP (nn : Word) : Statement (.ld_mNN_SP nn) := .inr (.inr (.inl ⟨_, _, _, rfl, rfl, rfl⟩))
theorem add_HL_BC : Statement .add_HL_BC := .inl ⟨_, rfl, rfl⟩
theorem ld_A_mBC : Statement .ld_A_mBC := .inl ⟨_, rfl, rfl⟩
theorem dec_BC : Statement .dec_BC := .inl ⟨_, rfl, rfl⟩
theorem inc_C : Statement .inc_C := .inl ⟨_, rfl, rfl⟩
theorem dec_C : Statement .dec_C := .inl ⟨_, rfl, rfl⟩
theorem ld_C_n (n : Byte) : Statement (.ld_C_n n) := .inr (.inl ⟨_, _, _, rfl, rfl, rfl⟩)
theorem rrca : Statement .rrca := .inl ⟨_, rfl, rfl⟩
theorem stop : Statement .stop := .inl ⟨_, rfl, rfl⟩
theorem ld_DE_nn (nn : Word) : Statement (.ld_DE_nn nn) := .inr (.inr (.inl ⟨_, _, _, rfl, rfl, rfl⟩))
theorem ld_mDE_A : Statement .ld_mDE_A := .inl ⟨_, rfl, rfl⟩
theorem inc_DE : Statement .inc_DE := .inl ⟨_, rfl, rfl⟩
theorem inc_D : Statement .inc_D := .inl ⟨_, rfl, rfl⟩
theorem dec_D : Statement .dec_D := .inl ⟨_, rfl, rfl⟩
theorem ld_D_n (n : Byte) : Statement (.ld_D_n n) := .inr (.inl ⟨_, _, _, rfl, rfl, rfl⟩)
theorem rla : Statement .rla := .inl ⟨_, rfl, rfl⟩
theorem jr_e (e : Byte) : Statement (.jr_e e) := .inr (.inl ⟨_, _, _, rfl, rfl, rfl⟩)
theorem add_HL_DE : Statement .add_HL_DE := .inl ⟨_, rfl, rfl⟩
theorem ld_A_mDE : Statement .ld_A_mDE := .inl ⟨_, rfl, rfl⟩
theorem dec_DE : Statement .dec_DE := .inl ⟨_, rfl, rfl⟩
theorem inc_E : Statement .inc_E := .inl ⟨_, rfl, rfl⟩
theorem dec_E : Statement .dec_E := .inl ⟨_, rfl, rfl⟩
theorem ld_E_n (n : Byte) : Statement (.ld_E_n n) := .inr (.inl ⟨_, _, _, rfl, rfl, rfl⟩)
theorem rra : Statement .rra := .inl ⟨_, rfl, rfl⟩
theorem jr_NZ_e (e : Byte) : Statement (.jr_NZ_e e) := .inr (.inl ⟨_, _, _, rfl, rfl, rfl⟩)
theorem ld_HL_nn (nn : Word) : Statement (.ld_HL_nn nn) := .inr (.inr (.inl ⟨_, _, _, rfl, rfl, rfl⟩))
theorem ld_mHLI_A : Statement .ld_mHLI_A := .inl ⟨_, rfl, rfl⟩
theorem inc_HL : Statement .inc_HL := .inl ⟨_, rfl, rfl⟩
theorem inc_H : Statement .inc_H := .inl ⟨_, rfl, rfl⟩
theorem dec_H : Statement .dec_H := .inl ⟨_, rfl, rfl⟩
theorem ld_H_n (n : Byte) : Statement (.ld_H_n n) := .inr (.inl ⟨_, _, _, rfl, rfl, rfl⟩)
theorem daa : Statement .daa := .inl ⟨_, rfl, rfl⟩
theorem jr_Z_e (e : Byte) : Statement (.jr_Z_e e) := .inr (.inl ⟨_, _, _, rfl, rfl, rfl⟩)
theorem add_HL_HL : Statement .add_HL_HL := .inl ⟨_, rfl, rfl⟩
theorem ld_A_mHLI : Statement .ld_A_mHLI := .inl ⟨_, rfl, rfl⟩
theorem dec_HL : Statement .dec_HL := .inl ⟨_, rfl, rfl⟩
theorem inc_L : Statement .inc_L := .inl ⟨_, rfl, rfl⟩
theorem dec_L : Statement .dec_L := .inl ⟨_, rfl, rfl⟩
theorem ld_L_n (n : Byte) : Statement (.ld_L_n n) := .inr (.inl ⟨_, _, _, rfl, rfl, rfl⟩)
theorem cpl : Statement .cpl := .inl ⟨_, rfl, rfl⟩
theorem jr_NC_e (e : Byte) : Statement (.jr_NC_e e) := .inr (.inl ⟨_, _, _, rfl, rfl, rfl⟩)
theorem ld_SP_nn (nn : Word) : Statement (.ld_SP_nn nn) := .inr (.inr (.inl ⟨_, _, _, rfl, rfl, rfl⟩))
theorem ld_mHLD_A : Statement .ld_mHLD_A := .inl ⟨_, rfl, rfl⟩
theorem inc_SP : Statement .inc_SP := .inl ⟨_, rfl, rfl⟩
theorem inc_mHL : Statement .inc_mHL := .inl ⟨_, rfl, rfl⟩
theorem dec_mHL : Statement .dec_mHL := .inl ⟨_, rfl, rfl⟩
theorem ld_mHL_n (n : Byte) : Statement (.ld_mHL_n n) := .inr (.inl ⟨_, _, _, rfl, rfl, rfl⟩)
theorem scf : Statement .scf := .inl ⟨_, rfl, rfl⟩
theorem jr_C_e (e : Byte) : Statement (.jr_C_e e) := .inr (.inl ⟨_, _, _, rfl, rfl, rfl⟩)
theorem add_HL_SP : Statement .add_HL_SP := .inl ⟨_, rfl, rfl⟩
theorem ld_A_mHLD : Statement .ld_A_mHLD := .inl ⟨_, rfl, rfl⟩
theorem dec_SP : Statement .dec_SP := .inl ⟨_, rfl, rfl⟩
theorem inc_A : Statement .inc_A := .inl ⟨_, rfl, rfl⟩
theorem dec_A : Statement .dec_A := .inl ⟨_, rfl, rfl⟩
theorem ld_A_n (n : Byte) : Statement (.ld_A_n n) := .inr (.inl ⟨_, _, _, rfl, rfl, rfl⟩)
theorem ccf : Statement .ccf := .inl ⟨_, rfl, rfl⟩
theorem ld_B_B : Statement .ld_B_B := .inl ⟨_, rfl, rfl⟩
theorem ld_B_C : Statement .ld_B_C := .inl ⟨_, rfl, rfl⟩
theorem ld_B_D : Statement .ld_B_D := .inl ⟨_, rfl, rfl⟩
theorem ld_B_E : Statement .ld_B_E := .inl ⟨_, rfl, rfl⟩
theorem ld_B_H : Statement .ld_B_H := .inl ⟨_, rfl, rfl⟩
theorem ld_B_L : Statement .ld_B_L := .inl ⟨_, rfl, rfl⟩
theorem ld_B_mHL : Statement .ld_B_mHL := .inl ⟨_, rfl, rfl⟩
theorem ld_B_A : Statement .ld_B_A := .inl ⟨_, rfl, rfl⟩
theorem ld_C_B : Statement .ld_C_B := .inl ⟨_, rfl, rfl⟩
theorem ld_C_C : Statement .ld_C_C := .inl ⟨_, rfl, rfl⟩
theorem ld_C_D : Statement .ld_C_D := .inl ⟨_, rfl, rfl⟩
theorem ld_C_E : Statement .ld_C_E := .inl ⟨_, rfl, rfl⟩
theorem ld_C_H : Statement .ld_C_H := .inl ⟨_, rfl, rfl⟩
theorem ld_C_L : Statement .ld_C_L := .inl ⟨_, rfl, rfl⟩
theorem ld_C_mHL : Statement .ld_C_mHL := .inl ⟨_, rfl, rfl⟩
theorem ld_C_A : Statement .ld_C_A := .inl ⟨_, rfl, rfl⟩
theorem ld_D_B : Statement .ld_D_B := .inl ⟨_, rfl, rfl⟩
theorem ld_D_C : Statement .ld_D_C := .inl ⟨_, rfl, rfl⟩
theorem ld_D_D : Statement .ld_D_D := .inl ⟨_, rfl, rfl⟩
theorem ld_D_E : Statement .ld_D_E := .inl ⟨_, rfl, rfl⟩
theorem ld_D_H : Statement .ld_D_H := .inl ⟨_, rfl, rfl⟩
theorem ld_D_L : Statement .ld_D_L := .inl ⟨_, rfl, rfl⟩
theorem ld_D_mHL : Statement .ld_D_mHL := .inl ⟨_, rfl, rfl⟩
theorem ld_D_A : Statement .ld_D_A := .inl ⟨_, rfl, rfl⟩
theorem ld_E_B : Statement .ld_E_B := .inl ⟨_, rfl, rfl⟩
theorem ld_E_C : Statement .ld_E_C := .inl ⟨_, rfl, rfl⟩
theorem ld_E_D : Statement .ld_E_D := .inl ⟨_, rfl, rfl⟩
theorem ld_E_E : Statement .ld_E_E := .inl ⟨_, rfl, rfl⟩
theorem ld_E_H : Statement .ld_E_H := .inl ⟨_, rfl, rfl⟩
theorem ld_E_L : Statement .ld_E_L := .inl ⟨_, rfl, rfl⟩
theorem ld_E_mHL : Statement .ld_E_mHL := .inl ⟨_, rfl, rfl⟩
theorem ld_E_A : Statement .ld_E_A := .inl ⟨_, rfl, rfl⟩
theorem ld_H_B : Statement .ld_H_B := .inl ⟨_, rfl, rfl⟩
theorem ld_H_C : Statement .ld_H_C := .inl ⟨_, rfl, rfl⟩
theorem ld_H_D : Statement .ld_H_D := .inl ⟨_, rfl, rfl⟩
theorem ld_H_E : Statement .ld_H_E := .inl ⟨_, rfl, rfl⟩
theorem ld_H_H : Statement .ld_H_H := .inl ⟨_, rfl, rfl⟩
theorem ld_H_L : Statement .ld_H_L := .inl ⟨_, rfl, rfl⟩
theorem ld_H_mHL : Statement .ld_H_mHL := .inl ⟨_, rfl, rfl⟩
theorem ld_H_A : Statement .ld_H_A := .inl ⟨_, rfl, rfl⟩
theorem ld_L_B : Statement .ld_L_B := .inl ⟨_, rfl, rfl⟩
theorem ld_L_C : Statement .ld_L_C := .inl ⟨_, rfl, rfl⟩
theorem ld_L_D : Statement .ld_L_D := .inl ⟨_, rfl, rfl⟩
theorem ld_L_E : Statement .ld_L_E := .inl ⟨_, rfl, rfl⟩
theorem ld_L_H : Statement .ld_L_H := .inl ⟨_, rfl, rfl⟩
theorem ld_L_L : Statement .ld_L_L := .inl ⟨_, rfl, rfl⟩
theorem ld_L_mHL : Statement .ld_L_mHL := .inl ⟨_, rfl, rfl⟩
theorem ld_L_A : Statement .ld_L_A := .inl ⟨_, rfl, rfl⟩
theorem ld_mHL_B : Statement .ld_mHL_B := .inl ⟨_, rfl, rfl⟩
theorem ld_mHL_C : Statement .ld_mHL_C := .inl ⟨_, rfl, rfl⟩
theorem ld_mHL_D : Statement .ld_mHL_D := .inl ⟨_, rfl, rfl⟩
theorem ld_mHL_E : Statement .ld_mHL_E := .inl ⟨_, rfl, rfl⟩
theorem ld_mHL_H : Statement .ld_mHL_H := .inl ⟨_, rfl, rfl⟩
theorem ld_mHL_L : Statement .ld_mHL_L := .inl ⟨_, rfl, rfl⟩
theorem halt : Statement .halt := .inl ⟨_, rfl, rfl⟩
theorem ld_mHL_A : Statement .ld_mHL_A := .inl ⟨_, rfl, rfl⟩
theorem ld_A_B : Statement .ld_A_B := .inl ⟨_, rfl, rfl⟩
theorem ld_A_C : Statement .ld_A_C := .inl ⟨_, rfl, rfl⟩
theorem ld_A_D : Statement .ld_A_D := .inl ⟨_, rfl, rfl⟩
theorem ld_A_E : Statement .ld_A_E := .inl ⟨_, rfl, rfl⟩
theorem ld_A_H : Statement .ld_A_H := .inl ⟨_, rfl, rfl⟩
theorem ld_A_L : Statement .ld_A_L := .inl ⟨_, rfl, rfl⟩
theorem ld_A_mHL : Statement .ld_A_mHL := .inl ⟨_, rfl, rfl⟩
theorem ld_A_A : Statement .ld_A_A := .inl ⟨_, rfl, rfl⟩
theorem add_A_B : Statement .add_A_B := .inl ⟨_, rfl, rfl⟩
theorem add_A_C : Statement .add_A_C := .inl ⟨_, rfl, rfl⟩
theorem add_A_D : Statement .add_A_D := .inl ⟨_, rfl, rfl⟩
theorem add_A_E : Statement .add_A_E := .inl ⟨_, rfl, rfl⟩
theorem add_A_H : Statement .add_A_H := .inl ⟨_, rfl, rfl⟩
theorem add_A_L : Statement .add_A_L := .inl ⟨_, rfl, rfl⟩
theorem add_A_mHL : Statement .add_A_mHL := .inl ⟨_, rfl, rfl⟩
theorem add_A_A : Statement .add_A_A := .inl ⟨_, rfl, rfl⟩
theorem adc_A_B : Statement .adc_A_B := .inl ⟨_, rfl, rfl⟩
theorem adc_A_C : Statement .adc_A_C := .inl ⟨_, rfl, rfl⟩
theorem adc_A_D : Statement .adc_A_D := .inl ⟨_, rfl, rfl⟩
theorem adc_A_E : Statement .adc_A_E := .inl ⟨_, rfl, rfl⟩
theorem adc_A_H : Statement .adc_A_H := .inl ⟨_, rfl, rfl⟩
theorem adc_A_L : Statement .adc_A_L := .inl ⟨_, rfl, rfl⟩
theorem adc_A_mHL : Statement .adc_A_mHL := .inl ⟨_, rfl, rfl⟩
theorem adc_A_A : Statement .adc_A_A := .inl ⟨_, rfl, rfl⟩
theorem sub_A_B : Statement .sub_A_B := .inl ⟨_, rfl, rfl⟩
theorem sub_A_C : Statement .sub_A_C := .inl ⟨_, rfl, rfl⟩
theorem sub_A_D : Statement .sub_A_D := .inl ⟨_, rfl, rfl⟩
theorem sub_A_E : Statement .sub_A_E := .inl ⟨_, rfl, rfl⟩
theorem sub_A_H : Statement .sub_A_H := .inl ⟨_, rfl, rfl⟩
theorem sub_A_L : Statement .sub_A_L := .inl ⟨_, rfl, rfl⟩
theorem sub_A_mHL : Statement .sub_A_mHL := .inl ⟨_, rfl, rfl⟩
theorem sub_A_A : Statement .sub_A_A := .inl ⟨_, rfl, rfl⟩
theorem sbc_A_B : Statement .sbc_A_B := .inl ⟨_, rfl, rfl⟩
theorem sbc_A_C : Statement .sbc_A_C := .inl ⟨_, rfl, rfl⟩
theorem sbc_A_D : Statement .sbc_A_D := .inl ⟨_, rfl, rfl⟩
theorem sbc_A_E : Statement .sbc_A_E := .inl ⟨_, rfl, rfl⟩
theorem sbc_A_H : Statement .sbc_A_H := .inl ⟨_, rfl, rfl⟩
theorem sbc_A_L : Statement .sbc_A_L := .inl ⟨_, rfl, rfl⟩
theorem sbc_A_mHL : Statement .sbc_A_mHL := .inl ⟨_, rfl, rfl⟩
theorem sbc_A_A : Statement .sbc_A_A := .inl ⟨_, rfl, rfl⟩
theorem and_A_B : Statement .and_A_B := .inl ⟨_, rfl, rfl⟩
theorem and_A_C : Statement .and_A_C := .inl ⟨_, rfl, rfl⟩
theorem and_A_D : Statement .and_A_D := .inl ⟨_, rfl, rfl⟩
theorem and_A_E : Statement .and_A_E := .inl ⟨_, rfl, rfl⟩
theorem and_A_H : Statement .and_A_H := .inl ⟨_, rfl, rfl⟩
theorem and_A_L : Statement .and_A_L := .inl ⟨_, rfl, rfl⟩
theorem and_A_mHL : Statement .and_A_mHL := .inl ⟨_, rfl, rfl⟩
theorem and_A_A : Statement .and_A_A := .inl ⟨_, rfl, rfl⟩
theorem xor_A_B : Statement .xor_A_B := .inl ⟨_, rfl, rfl⟩
theorem xor_A_C : Statement .xor_A_C := .inl ⟨_, rfl, rfl⟩
theorem xor_A_D : Statement .xor_A_D := .inl ⟨_, rfl, rfl⟩
theorem xor_A_E : Statement .xor_A_E := .inl ⟨_, rfl, rfl⟩
theorem xor_A_H : Statement .xor_A_H := .inl ⟨_, rfl, rfl⟩
theorem xor_A_L : Statement .xor_A_L := .inl ⟨_, rfl, rfl⟩
theorem xor_A_mHL : Statement .xor_A_mHL := .inl ⟨_, rfl, rfl⟩
theorem xor_A_A : Statement .xor_A_A := .inl ⟨_, rfl, rfl⟩
theorem or_A_B : Statement .or_A_B := .inl ⟨_, rfl, rfl⟩
theorem or_A_C : Statement .or_A_C := .inl ⟨_, rfl, rfl⟩
theorem or_A_D : Statement .or_A_D := .inl ⟨_, rfl, rfl⟩
theorem or_A_E : Statement .or_A_E := .inl ⟨_, rfl, rfl⟩
theorem or_A_H : Statement .or_A_H := .inl ⟨_, rfl, rfl⟩
theorem or_A_L : Statement .or_A_L := .inl ⟨_, rfl, rfl⟩
theorem or_A_mHL : Statement .or_A_mHL := .inl ⟨_, rfl, rfl⟩
theorem or_A_A : Statement .or_A_A := .inl ⟨_, rfl, rfl⟩
theorem cp_A_B : Statement .cp_A_B := .inl ⟨_, rfl, rfl⟩
theorem cp_A_C : Statement .cp_A_C := .inl ⟨_, rfl, rfl⟩
theorem cp_A_D : Statement .cp_A_D := .inl ⟨_, rfl, rfl⟩
theorem cp_A_E : Statement .cp_A_E := .inl ⟨_, rfl, rfl⟩
theorem cp_A_H : Statement .cp_A_H := .inl ⟨_, rfl, rfl⟩
theorem cp_A_L : Statement .cp_A_L := .inl ⟨_, rfl, rfl⟩
theorem cp_A_mHL : Statement .cp_A_mHL := .inl ⟨_, rfl, rfl⟩
theorem cp_A_A : Statement .cp_A_A := .inl ⟨_, rfl, rfl⟩
theorem ret_NZ : Statement .ret_NZ := .inl ⟨_, rfl, rfl⟩
theorem pop_BC : Statement .pop_BC := .inl ⟨_, rfl, rfl⟩
theorem jp_NZ_nn (nn : Word) : Statement (.jp_NZ_nn nn) := .inr (.inr (.inl ⟨_, _, _, rfl, rfl, rfl⟩))
theorem jp_nn (nn : Word) : Statement (.jp_nn nn) := .inr (.inr (.inl ⟨_, _, _, rfl, rfl, rfl⟩))
theorem call_NZ_nn (nn : Word) : Statement (.call_NZ_nn nn) := .inr (.inr (.inl ⟨_, _, _, rfl, rfl, rfl⟩))
theorem push_BC : Statement .push_BC := .inl ⟨_, rfl, rfl⟩
theorem add_A_n (n : Byte) : Statement (.add_A_n n) := .inr (.inl ⟨_, _, _, rfl, rfl, rfl⟩)
theorem rst_00H : Statement .rst_00H := .inl ⟨_, rfl, rfl⟩
theorem ret_Z : Statement .ret_Z := .inl ⟨_, rfl, rfl⟩
theorem ret : Statement .ret := .inl ⟨_, rfl, rfl⟩
theorem jp_Z_nn (nn : Word) : Statement (.jp_Z_nn nn) := .inr (.inr (.inl ⟨_, _, _, rfl, rfl, rfl⟩))
theorem prefix_CB : Statement .prefix_CB := .inr (.inr (.inr (.inr ⟨rfl, rfl, rfl⟩)))
theorem call_Z_nn (nn : Word) : Statement (.call_Z_nn nn) := .inr (.inr (.inl ⟨_, _, _, rfl, rfl, rfl⟩))
theorem call_nn (nn : Word) : Statement (.call_nn nn) := .inr (.inr (.inl ⟨_, _, _, rfl, rfl, rfl⟩))
theorem adc_A_n (n : Byte) : Statement (.adc_A_n n) := .inr (.inl ⟨_, _, _, rfl, rfl, rfl⟩)
theorem rst_08H : Statement .rst_08H := .inl ⟨_, rfl, rfl⟩
theorem ret_NC : Statement .ret_NC := .inl ⟨_, rfl, rfl⟩
theorem pop_DE : Statement .pop_DE := .inl ⟨_, rfl, rfl⟩
theorem jp_NC_nn (nn : Word) : Statement (.jp_NC_nn nn) := .inr (.inr (.inl ⟨_, _, _, rfl, rfl, rfl⟩))
theorem illegal_D3 : Statement .illegal_D3 := .inl ⟨_, rfl, rfl⟩
theorem call_NC_nn (nn : Word) : Statement (.call_NC_nn nn) := .inr (.inr (.inl ⟨_, _, _, rfl, rfl, rfl⟩))
theorem push_DE : Statement .push_DE := .inl ⟨_, rfl, rfl⟩
theorem sub_A_n (n : Byte) : Statement (.sub_A_n n) := .inr (.inl ⟨_, _, _, rfl, rfl, rfl⟩)
theorem rst_10H : Statement .rst_10H := .inl ⟨_, rfl, rfl⟩
theorem ret_C : Statement .ret_C := .inl ⟨_, rfl, rfl⟩
theorem reti : Statement .reti := .inl ⟨_, rfl, rfl⟩
theorem jp_C_nn (nn : Word) : Statement (.jp_C_nn nn) := .inr (.inr (.inl ⟨_, _, _, rfl, rfl, rfl⟩))
theorem illegal_DB : Statement .illegal_DB := .inl ⟨_, rfl, rfl⟩
theorem call_C_nn (nn : Word) : Statement (.call_C_nn nn) := .inr (.inr (.inl ⟨_, _, _, rfl, rfl, rfl⟩))
theorem illegal_DD : Statement .illegal_DD := .inl ⟨_, rfl, rfl⟩
theorem sbc_A_n (n : Byte) : Statement (.sbc_A_n n) := .inr (.inl ⟨_, _, _, rfl, rfl, rfl⟩)
theorem rst_18H : Statement .rst_18H := .inl ⟨_, rfl, rfl⟩
theorem ldh_mN_A (n : Byte) : Statement (.ldh_mN_A n) := .inr (.inl ⟨_, _, _, rfl, rfl, rfl⟩)
theorem pop_HL : Statement .pop_HL := .inl ⟨_, rfl, rfl⟩
theorem ld_mC_A : Statement .ld_mC_A := .inl ⟨_, rfl, rfl⟩
theorem illegal_E3 : Statement .illegal_E3 := .inl ⟨_, rfl, rfl⟩
theorem illegal_E4 : Statement .illegal_E4 := .inl ⟨_, rfl, rfl⟩
theorem push_HL : Statement .push_HL := .inl ⟨_, rfl, rfl⟩
theorem and_A_n (n : Byte) : Statement (.and_A_n n) := .inr (.inl ⟨_, _, _, rfl, rfl, rfl⟩)
theorem rst_20H : Statement .rst_20H := .inl ⟨_, rfl, rfl⟩
theorem add_SP_e (e : Byte) : Statement (.add_SP_e e) := .inr (.inl ⟨_, _, _, rfl, rfl, rfl⟩)
theorem jp_mHL : Statement .jp_mHL := .inl ⟨_, rfl, rfl⟩
theorem ld_mNN_A (nn : Word) : Statement (.ld_mNN_A nn) := .inr (.inr (.inl ⟨_, _, _, rfl, rfl, rfl⟩))
theorem illegal_EB : Statement .illegal_EB := .inl ⟨_, rfl, rfl⟩
theorem illegal_EC : Statement .illegal_EC := .inl ⟨_, rfl, rfl⟩
theorem illegal_ED : Statement .illegal_ED := .inl ⟨_, rfl, rfl⟩
theorem xor_A_n (n : Byte) : Statement (.xor_A_n n) := .inr (.inl ⟨_, _, _, rfl, rfl, rfl⟩)
theorem rst_28H : Statement .rst_28H := .inl ⟨_, rfl, rfl⟩
theorem ldh_A_mN (n : Byte) : Statement (.ldh_A_mN n) := .inr (.inl ⟨_, _, _, rfl, rfl, rfl⟩)
theorem pop_AF : Statement .pop_AF := .inl ⟨_, rfl, rfl⟩
theorem illegal_F2 : Statement .illegal_F2 := .inl ⟨_, rfl, rfl⟩
theorem di : Statement .di := .inl ⟨_, rfl, rfl⟩
theorem illegal_F4 : Statement .illegal_F4 := .inl ⟨_, rfl, rfl⟩
theorem push_AF : Statement .push_AF := .inl ⟨_, rfl, rfl⟩
theorem or_A_n (n : Byte) : Statement (.or_A_n n) := .inr (.inl ⟨_, _, _, rfl, rfl, rfl⟩)
theorem rst_30H : Statement .rst_30H := .inl ⟨_, rfl, rfl⟩
theorem ld_HL_SPe (e : Byte) : Statement (.ld_HL_SPe e) := .inr (.inl ⟨_, _, _, rfl, rfl, rfl⟩)
theorem ld_SP_HL : Statement .ld_SP_HL := .inl ⟨_, rfl, rfl⟩
theorem ld_A_mNN (nn : Word) : Statement (.ld_A_mNN nn) := .inr (.inr (.inl ⟨_, _, _, rfl, rfl, rfl⟩))
theorem ei : Statement .ei := .inl ⟨_, rfl, rfl⟩
theorem illegal_FC : Statement .illegal_FC := .inl ⟨_, rfl, rfl⟩
theorem illegal_FD : Statement .illegal_FD := .inl ⟨_, rfl, rfl⟩
theorem cp_A_n (n : Byte) : Statement (.cp_A_n n) := .inr (.inl ⟨_, _, _, rfl, rfl, rfl⟩)
theorem rst_38H : Statement .rst_38H := .inl ⟨_, rfl, rfl⟩
theorem rlc_B : Statement .rlc_B := .inr (.inr (.inr (.inl ⟨_, rfl, rfl, rfl⟩)))
theorem rlc_C : Statement .rlc_C := .inr (.inr (.inr (.inl ⟨_, rfl, rfl, rfl⟩)))
theorem rlc_D : Statement .rlc_D := .inr (.inr (.inr (.inl ⟨_, rfl, rfl, rfl⟩)))
theorem rlc_E : Statement .rlc_E := .inr (.inr (.inr (.inl ⟨_, rfl, rfl, rfl⟩)))
theorem rlc_H : Statement .rlc_H := .inr (.inr (.inr (.inl ⟨_, rfl, rfl, rfl⟩)))
theorem rlc_L : Statement .rlc_L := .inr (.inr (.inr (.inl ⟨_, rfl, rfl, rfl⟩)))
theorem rlc_mHL : Statement .rlc_mHL := .inr (.inr (.inr (.inl ⟨_, rfl, rfl, rfl⟩)))
theorem rlc_A : Statement .rlc_A := .inr (.inr (.inr (.inl ⟨_, rfl, rfl, rfl⟩)))
theorem rrc_B : Statement .rrc_B := .inr (.inr (.inr (.inl ⟨_, rfl, rfl, rfl⟩)))
theorem rrc_C : Statement .rrc_C := .inr (.inr (.inr (.inl ⟨_, rfl, rfl, rfl⟩)))
theorem rrc_D : Statement .rrc_D := .inr (.inr (.inr (.inl ⟨_, rfl, rfl, rfl⟩)))
theorem rrc_E : Statement .rrc_E := .inr (.inr (.inr (.inl ⟨_, rfl, rfl, rfl⟩)))
theorem rrc_H : Statement .rrc_H := .inr (.inr (.inr (.inl ⟨_, rfl, rfl, rfl⟩)))
theorem rrc_L : Statement .rrc_L := .inr (.inr (.inr (.inl ⟨_, rfl, rfl, rfl⟩)))
theorem rrc_mHL : Statement .rrc_mHL := .inr (.inr (.inr (.inl ⟨_, rfl, rfl, rfl⟩)))
theorem rrc_A : Statement .rrc_A := .inr (.inr (.inr (.inl ⟨_, rfl, rfl, rfl⟩)))
theorem rl_B : Statement .rl_B := .inr (.inr (.inr (.inl ⟨_, rfl, rfl, rfl⟩)))
theorem rl_C : Statement .rl_C := .inr (.inr (.inr (.inl ⟨_, rfl, rfl, rfl⟩)))
theorem rl_D : Statement .rl_D := .inr (.inr (.inr (.inl ⟨_, rfl, rfl, rfl⟩)))
theorem rl_E : Statement .rl_E := .inr (.inr (.inr (.inl ⟨_, rfl, rfl, rfl⟩)))
theorem rl_H : Statement .rl_H := .inr (.inr (.inr (.inl ⟨_, rfl, rfl, rfl⟩)))
theorem rl_L : Statement .rl_L := .inr (.inr (.inr (.inl ⟨_, rfl, rfl, rfl⟩)))
theorem rl_mHL : Statement .rl_mHL := .inr (.inr (.inr (.inl ⟨_, rfl, rfl, rfl⟩)))
theorem rl_A : Statement .rl_A := .inr (.inr (.inr (.inl ⟨_, rfl, rfl, rfl⟩)))
theorem rr_B : Statement .rr_B := .inr (.inr (.inr (.inl ⟨_, rfl, rfl, rfl⟩)))
theorem rr_C : Statement .rr_C := .inr (.inr (.inr (.inl ⟨_, rfl, rfl, rfl⟩)))
theorem rr_D : Statement .rr_D := .inr (.inr (.inr (.inl ⟨_, rfl, rfl, rfl⟩)))
theorem rr_E : Statement .rr_E := .inr (.inr (.inr (.inl ⟨_, rfl, rfl, rfl⟩)))
theorem rr_H : Statement .rr_H := .inr (.inr (.inr (.inl ⟨_, rfl, rfl, rfl⟩)))
theorem rr_L : Statement .rr_L := .inr (.inr (.inr (.inl ⟨_, rfl, rfl, rfl⟩)))
theorem rr_mHL : Statement .rr_mHL := .inr (.inr (.inr (.inl ⟨_, rfl, rfl, rfl⟩)))
theorem rr_A : Statement .rr_A := .inr (.inr (.inr (.inl ⟨_, rfl, rfl, rfl⟩)))
theorem sla_B : Statement .sla_B := .inr (.inr (.inr (.inl ⟨_, rfl, rfl, rfl⟩)))
theorem sla_C : Statement .sla_C := .inr (.inr (.inr (.inl ⟨_, rfl, rfl, rfl⟩)))
theorem sla_D : Statement .sla_D := .inr (.inr (.inr (.inl ⟨_, rfl, rfl, rfl⟩)))
theorem sla_E : Statement .sla_E := .inr (.inr (.inr (.inl ⟨_, rfl, rfl, rfl⟩)))
theorem sla_H : Statement .sla_H := .inr (.inr (.inr (.inl ⟨_, rfl, rfl, rfl⟩)))
theorem sla_L : Statement .sla_L := .inr (.inr (.inr (.inl ⟨_, rfl, rfl, rfl⟩)))
theorem sla_mHL : Statement .sla_mHL := .inr (.inr (.inr (.inl ⟨_, rfl, rfl, rfl⟩)))
theorem sla_A : Statement .sla_A := .inr (.inr (.inr (.inl ⟨_, rfl, rfl, rfl⟩)))
theorem sra_B : Statement .sra_B := .inr (.inr (.inr (.inl ⟨_, rfl, rfl, rfl⟩)))
theorem sra_C : Statement .sra_C := .inr (.inr (.inr (.inl ⟨_, rfl, rfl, rfl⟩)))
theorem sra_D : Statement .sra_D := .inr (.inr (.inr (.inl ⟨_, rfl, rfl, rfl⟩)))
theorem sra_E : Statement .sra_E := .inr (.inr (.inr (.inl ⟨_, rfl, rfl, rfl⟩)))
theorem sra_H : Statement .sra_H := .inr (.inr (.inr (.inl ⟨_, rfl, rfl, rfl⟩)))
theorem sra_L : Statement .sra_L := .inr (.inr (.inr (.inl ⟨_, rfl, rfl, rfl⟩)))
theorem sra_mHL : Statement .sra_mHL := .inr (.inr (.inr (.inl ⟨_, rfl, rfl, rfl⟩)))
theorem sra_A : Statement .sra_A := .inr (.inr (.inr (.inl ⟨_, rfl, rfl, rfl⟩)))
theorem swap_B : Statement .swap_B := .inr (.inr (.inr (.inl ⟨_, rfl, rfl, rfl⟩)))
theorem swap_C : Statement .swap_C := .inr (.inr (.inr (.inl ⟨_, rfl, rfl, rfl⟩)))
theorem swap_D : Statement .swap_D := .inr (.inr (.inr (.inl ⟨_, rfl, rfl, rfl⟩)))
theorem swap_E : Statement .swap_E := .inr (.inr (.inr (.inl ⟨_, rfl, rfl, rfl⟩)))
theorem swap_H : Statement .swap_H := .inr (.inr (.inr (.inl ⟨_, rfl, rfl, rfl⟩)))
theorem swap_L : Statement .swap_L := .inr (.inr (.inr (.inl ⟨_, rfl, rfl, rfl⟩)))
theorem swap_mHL : Statement .swap_mHL := .inr (.inr (.inr (.inl ⟨_, rfl, rfl, rfl⟩)))
theorem swap_A : Statement .swap_A := .inr (.inr (.inr (.inl ⟨_, rfl, rfl, rfl⟩)))
theorem srl_B : Statement .srl_B := .inr (.inr (.inr (.inl ⟨_, rfl, rfl, rfl⟩)))
theorem srl_C : Statement .srl_C := .inr (.inr (.inr (.inl ⟨_, rfl, rfl, rfl⟩)))
theorem srl_D : Statement .srl_D := .inr (.inr (.inr (.inl ⟨_, rfl, rfl, rfl⟩)))
theorem srl_E : Statement .srl_E := .inr (.inr (.inr (.inl ⟨_, rfl, rfl, rfl⟩)))
theorem srl_H : Statement .srl_H := .inr (.inr (.inr (.inl ⟨_, rfl, rfl, rfl⟩)))
theorem srl_L : Statement .srl_L := .inr (.inr (.inr (.inl ⟨_, rfl, rfl, rfl⟩)))
theorem srl_mHL : Statement .srl_mHL := .inr (.inr (.inr (.inl ⟨_, rfl, rfl, rfl⟩)))
theorem srl_A : Statement .srl_A := .inr (.inr (.inr (.inl ⟨_, rfl, rfl, rfl⟩)))
theorem bit_0_B : Statement .bit_0_B := .inr (.inr (.inr (.inl ⟨_, rfl, rfl, rfl⟩)))
theorem bit_0_C : Statement .bit_0_C := .inr (.inr (.inr (.inl ⟨_, rfl, rfl, rfl⟩)))
theorem bit_0_D : Statement .bit_0_D := .inr (.inr (.inr (.inl ⟨_, rfl, rfl, rfl⟩)))
theorem bit_0_E : Statement .bit_0_E := .inr (.inr (.inr (.inl ⟨_, rfl, rfl, rfl⟩)))
theorem bit_0_H : Statement .bit_0_H := .inr (.inr (.inr (.inl ⟨_, rfl, rfl, rfl⟩)))
theorem bit_0_L : Statement .bit_0_L := .inr (.inr (.inr (.inl ⟨_, rfl, rfl, rfl⟩)))
theorem bit_0_mHL : Statement .bit_0_mHL := .inr (.inr (.inr (.inl ⟨_, rfl, rfl, rfl⟩)))
theorem bit_0_A : Statement .bit_0_A := .inr (.inr (.inr (.inl ⟨_, rfl, rfl, rfl⟩)))
theorem bit_1_B : Statement .bit_1_B := .inr (.inr (.inr (.inl ⟨_, rfl, rfl, rfl⟩)))
theorem bit_1_C : Statement .bit_1_C := .inr (.inr (.inr (.inl ⟨_, rfl, rfl, rfl⟩)))
theorem bit_1_D : Statement .bit_1_D := .inr (.inr (.inr (.inl ⟨_, rfl, rfl, rfl⟩)))
theorem bit_1_E : Statement .bit_1_E := .inr (.inr (.inr (.inl ⟨_, rfl, rfl, rfl⟩)))
theorem bit_1_H : Statement .bit_1_H := .inr (.inr (.inr (.inl ⟨_, rfl, rfl, rfl⟩)))
theorem bit_1_L : Statement .bit_1_L := .inr (.inr (.inr (.inl ⟨_, rfl, rfl, rfl⟩)))
theorem bit_1_mHL : Statement .bit_1_mHL := .inr (.inr (.inr (.inl ⟨_, rfl, rfl, rfl⟩)))
theorem bit_1_A : Statement .bit_1_A := .inr (.inr (.inr (.inl ⟨_, rfl, rfl, rfl⟩)))
theorem bit_2_B : Statement .bit_2_B := .inr (.inr (.inr (.inl ⟨_, rfl, rfl, rfl⟩)))
theorem bit_2_C : Statement .bit_2_C := .inr (.inr (.inr (.inl ⟨_, rfl, rfl, rfl⟩)))
theorem bit_2_D : Statement .bit_2_D := .inr (.inr (.inr (.inl ⟨_, rfl, rfl, rfl⟩)))
theorem bit_2_E : Statement .bit_2_E := .inr (.inr (.inr (.inl ⟨_, rfl, rfl, rfl⟩)))
theorem bit_2_H : Statement .bit_2_H := .inr (.inr (.inr (.inl ⟨_, rfl, rfl, rfl⟩)))
theorem bit_2_L : Statement .bit_2_L := .inr (.inr (.inr (.inl ⟨_, rfl, rfl, rfl⟩)))
theorem bit_2_mHL : Statement .bit_2_mHL := .inr (.inr (.inr (.inl ⟨_, rfl, rfl, rfl⟩)))
theorem bit_2_A : Statement .bit_2_A := .inr (.inr (.inr (.inl ⟨_, rfl, rfl, rfl⟩)))
theorem bit_3_B : Statement .bit_3_B := .inr (.inr (.inr (.inl ⟨_, rfl, rfl, rfl⟩)))
theorem bit_3_C : Statement .bit_3_C := .inr (.inr (.inr (.inl ⟨_, rfl, rfl, rfl⟩)))
theorem bit_3_D : Statement .bit_3_D := .inr (.inr (.inr (.inl ⟨_, rfl, rfl, rfl⟩)))
theorem bit_3_E : Statement .bit_3_E := .inr (.inr (.inr (.inl ⟨_, rfl, rfl, rfl⟩)))
theorem bit_3_H : Statement .bit_3_H := .inr (.inr (.inr (.inl ⟨_, rfl, rfl, rfl⟩)))
theorem bit_3_L : Statement .bit_3_L := .inr (.inr (.inr (.inl ⟨_, rfl, rfl, rfl⟩)))
theorem bit_3_mHL : Statement .bit_3_mHL := .inr (.inr (.inr (.inl ⟨_, rfl, rfl, rfl⟩)))
theorem bit_3_A : Statement .bit_3_A := .inr (.inr (.inr (.inl ⟨_, rfl, rfl, rfl⟩)))
theorem bit_4_B : Statement .bit_4_B := .inr (.inr (.inr (.inl ⟨_, rfl, rfl, rfl⟩)))
theorem bit_4_C : Statement .bit_4_C := .inr (.inr (.inr (.inl ⟨_, rfl, rfl, rfl⟩)))
theorem bit_4_D : Statement .bit_4_D := .inr (.inr (.inr (.inl ⟨_, rfl, rfl, rfl⟩)))
theorem bit_4_E : Statement .bit_4_E := .inr (.inr (.inr (.inl ⟨_, rfl, rfl, rfl⟩)))
theorem bit_4_H : Statement .bit_4_H := .inr (.inr (.inr (.inl ⟨_, rfl, rfl, rfl⟩)))
theorem bit_4_L : Statement .bit_4_L := .inr (.inr (.inr (.inl ⟨_, rfl, rfl, rfl⟩)))
theorem bit_4_mHL : Statement .bit_4_mHL := .inr (.inr (.inr (.inl ⟨_, rfl, rfl, rfl⟩)))
theorem bit_4_A : Statement .bit_4_A := .inr (.inr (.inr (.inl ⟨_, rfl, rfl, rfl⟩)))
theorem bit_5_B : Statement .bit_5_B := .inr (.inr (.inr (.inl ⟨_, rfl, rfl, rfl⟩)))
theorem bit_5_C : Statement .bit_5_C := .inr (.inr (.inr (.inl ⟨_, rfl, rfl, rfl⟩)))
theorem bit_5_D : Statement .bit_5_D := .inr (.inr (.inr (.inl ⟨_, rfl, rfl, rfl⟩)))
theorem bit_5_E : Statement .bit_5_E := .inr (.inr (.inr (.inl ⟨_, rfl, rfl, rfl⟩)))
theorem bit_5_H : Statement .bit_5_H := .inr (.inr (.inr (.inl ⟨_, rfl, rfl, rfl⟩)))
theorem bit_5_L : Statement .bit_5_L := .inr (.inr (.inr (.inl ⟨_, rfl, rfl, rfl⟩)))
theorem bit_5_mHL : Statement .bit_5_mHL := .inr (.inr (.inr (.inl ⟨_, rfl, rfl, rfl⟩)))
theorem bit_5_A : Statement .bit_5_A := .inr (.inr (.inr (.inl ⟨_, rfl, rfl, rfl⟩)))
theorem bit_6_B : Statement .bit_6_B := .inr (.inr (.inr (.inl ⟨_, rfl, rfl, rfl⟩)))
theorem bit_6_C : Statement .bit_6_C := .inr (.inr (.inr (.inl ⟨_, rfl, rfl, rfl⟩)))
theorem bit_6_D : Statement .bit_6_D := .inr (.inr (.inr (.inl ⟨_, rfl, rfl, rfl⟩)))
theorem bit_6_E : Statement .bit_6_E := .inr (.inr (.inr (.inl ⟨_, rfl, rfl, rfl⟩)))
theorem bit_6_H : Statement .bit_6_H := .inr (.inr (.inr (.inl ⟨_, rfl, rfl, rfl⟩)))
theorem bit_6_L : Statement .bit_6_L := .inr (.inr (.inr (.inl ⟨_, rfl, rfl, rfl⟩)))
theorem bit_6_mHL : Statement .bit_6_mHL := .inr (.inr (.inr (.inl ⟨_, rfl, rfl, rfl⟩)))
theorem bit_6_A : Statement .bit_6_A := .inr (.inr (.inr (.inl ⟨_, rfl, rfl, rfl⟩)))
theorem bit_7_B : Statement .bit_7_B := .inr (.inr (.inr (.inl ⟨_, rfl, rfl, rfl⟩)))
theorem bit_7_C : Statement .bit_7_C := .inr (.inr (.inr (.inl ⟨_, rfl, rfl, rfl⟩)))
theorem bit_7_D : Statement .bit_7_D := .inr (.inr (.inr (.inl ⟨_, rfl, rfl, rfl⟩)))
theorem bit_7_E : Statement .bit_7_E := .inr (.inr (.inr (.inl ⟨_, rfl, rfl, rfl⟩)))
theorem bit_7_H : Statement .bit_7_H := .inr (.inr (.inr (.inl ⟨_, rfl, rfl, rfl⟩)))
theorem bit_7_L : Statement .bit_7_L := .inr (.inr (.inr (.inl ⟨_, rfl, rfl, rfl⟩)))
theorem bit_7_mHL : Statement .bit_7_mHL := .inr (.inr (.inr (.inl ⟨_, rfl, rfl, rfl⟩)))
theorem bit_7_A : Statement .bit_7_A := .inr (.inr (.inr (.inl ⟨_, rfl, rfl, rfl⟩)))
theorem res_0_B : Statement .res_0_B := .inr (.inr (.inr (.inl ⟨_, rfl, rfl, rfl⟩)))
theorem res_0_C : Statement .res_0_C := .inr (.inr (.inr (.inl ⟨_, rfl, rfl, rfl⟩)))
theorem res_0_D : Statement .res_0_D := .inr (.inr (.inr (.inl ⟨_, rfl, rfl, rfl⟩)))
theorem res_0_E : Statement .res_0_E := .inr (.inr (.inr (.inl ⟨_, rfl, rfl, rfl⟩)))
theorem res_0_H : Statement .res_0_H := .inr (.inr (.inr (.inl ⟨_, rfl, rfl, rfl⟩)))
theorem res_0_L : Statement .res_0_L := .inr (.inr (.inr (.inl ⟨_, rfl, rfl, rfl⟩)))
theorem res_0_mHL : Statement .res_0_mHL := .inr (.inr (.inr (.inl ⟨_, rfl, rfl, rfl⟩)))
theorem res_0_A : Statement .res_0_A := .inr (.inr (.inr (.inl ⟨_, rfl, rfl, rfl⟩)))
theorem res_1_B : Statement .res_1_B := .inr (.inr (.inr (.inl ⟨_, rfl, rfl, rfl⟩)))
theorem res_1_C : Statement .res_1_C := .inr (.inr (.inr (.inl ⟨_, rfl, rfl, rfl⟩)))
theorem res_1_D : Statement .res_1_D := .inr (.inr (.inr (.inl ⟨_, rfl, rfl, rfl⟩)))
theorem res_1_E : Statement .res_1_E := .inr (.inr (.inr (.inl ⟨_, rfl, rfl, rfl⟩)))
theorem res_1_H : Statement .res_1_H := .inr (.inr (.inr (.inl ⟨_, rfl, rfl, rfl⟩)))
theorem res_1_L : Statement .res_1_L := .inr (.inr (.inr (.inl ⟨_, rfl, rfl, rfl⟩)))
theorem res_1_mHL : Statement .res_1_mHL := .inr (.inr (.inr (.inl ⟨_, rfl, rfl, rfl⟩)))
theorem res_1_A : Statement .res_1_A := .inr (.inr (.inr (.inl ⟨_, rfl, rfl, rfl⟩)))
theorem res_2_B : Statement .res_2_B := .inr (.inr (.inr (.inl ⟨_, rfl, rfl, rfl⟩)))
theorem res_2_C : Statement .res_2_C := .inr (.inr (.inr (.inl ⟨_, rfl, rfl, rfl⟩)))
theorem res_2_D : Statement .res_2_D := .inr (.inr (.inr (.inl ⟨_, rfl, rfl, rfl⟩)))
theorem res_2_E : Statement .res_2_E := .inr (.inr (.inr (.inl ⟨_, rfl, rfl, rfl⟩)))
theorem res_2_H : Statement .res_2_H := .inr (.inr (.inr (.inl ⟨_, rfl, rfl, rfl⟩)))
theorem res_2_L : Statement .res_2_L := .inr (.inr (.inr (.inl ⟨_, rfl, rfl, rfl⟩)))
theorem res_2_mHL : Statement .res_2_mHL := .inr (.inr (.inr (.inl ⟨_, rfl, rfl, rfl⟩)))
theorem res_2_A : Statement .res_2_A := .inr (.inr (.inr (.inl ⟨_, rfl, rfl, rfl⟩)))
theorem res_3_B : Statement .res_3_B := .inr (.inr (.inr (.inl ⟨_, rfl, rfl, rfl⟩)))
theorem res_3_C : Statement .res_3_C := .inr (.inr (.inr (.inl ⟨_, rfl, rfl, rfl⟩)))
theorem res_3_D : Statement .res_3_D := .inr (.inr (.inr (.inl ⟨_, rfl, rfl, rfl⟩)))
theorem res_3_E : Statement .res_3_E := .inr (.inr (.inr (.inl ⟨_, rfl, rfl, rfl⟩)))
theorem res_3_H : Statement .res_3_H := .inr (.inr (.inr (.inl ⟨_, rfl, rfl, rfl⟩)))
theorem res_3_L : Statement .res_3_L := .inr (.inr (.inr (.inl ⟨_, rfl, rfl, rfl⟩)))
theorem res_3_mHL : Statement .res_3_mHL := .inr (.inr (.inr (.inl ⟨_, rfl, rfl, rfl⟩)))
theorem res_3_A : Statement .res_3_A := .inr (.inr (.inr (.inl ⟨_, rfl, rfl, rfl⟩)))
theorem res_4_B : Statement .res_4_B := .inr (.inr (.inr (.inl ⟨_, rfl, rfl, rfl⟩)))
theorem res_4_C : Statement .res_4_C := .inr (.inr (.inr (.inl ⟨_, rfl, rfl, rfl⟩)))
theorem res_4_D : Statement .res_4_D := .inr (.inr (.inr (.inl ⟨_, rfl, rfl, rfl⟩)))
theorem res_4_E : Statement .res_4_E := .inr (.inr (.inr (.inl ⟨_, rfl, rfl, rfl⟩)))
theorem res_4_H : Statement .res_4_H := .inr (.inr (.inr (.inl ⟨_, rfl, rfl, rfl⟩)))
theorem res_4_L : Statement .res_4_L := .inr (.inr (.inr (.inl ⟨_, rfl, rfl, rfl⟩)))
theorem res_4_mHL : Statement .res_4_mHL := .inr (.inr (.inr (.inl ⟨_, rfl, rfl, rfl⟩)))
theorem res_4_A : Statement .res_4_A := .inr (.inr (.inr (.inl ⟨_, rfl, rfl, rfl⟩)))
theorem res_5_B : Statement .res_5_B := .inr (.inr (.inr (.inl ⟨_, rfl, rfl, rfl⟩)))
theorem res_5_C : Statement .res_5_C := .inr (.inr (.inr (.inl ⟨_, rfl, rfl, rfl⟩)))
theorem res_5_D : Statement .res_5_D := .inr (.inr (.inr (.inl ⟨_, rfl, rfl, rfl⟩)))
theorem res_5_E : Statement .res_5_E := .inr (.inr (.inr (.inl ⟨_, rfl, rfl, rfl⟩)))
theorem res_5_H : Statement .res_5_H := .inr (.inr (.inr (.inl ⟨_, rfl, rfl, rfl⟩)))
theorem res_5_L : Statement .res_5_L := .inr (.inr (.inr (.inl ⟨_, rfl, rfl, rfl⟩)))
theorem res_5_mHL : Statement .res_5_mHL := .inr (.inr (.inr (.inl ⟨_, rfl, rfl, rfl⟩)))
theorem res_5_A : Statement .res_5_A := .inr (.inr (.inr (.inl ⟨_, rfl, rfl, rfl⟩)))
theorem res_6_B : Statement .res_6_B := .inr (.inr (.inr (.inl ⟨_, rfl, rfl, rfl⟩)))
theorem res_6_C : Statement .res_6_C := .inr (.inr (.inr (.inl ⟨_, rfl, rfl, rfl⟩)))
theorem res_6_D : Statement .res_6_D := .inr (.inr (.inr (.inl ⟨_, rfl, rfl, rfl⟩)))
theorem res_6_E : Statement .res_6_E := .inr (.inr (.inr (.inl ⟨_, rfl, rfl, rfl⟩)))
theorem res_6_H : Statement .res_6_H := .inr (.inr (.inr (.inl ⟨_, rfl, rfl, rfl⟩)))
theorem res_6_L : Statement .res_6_L := .inr (.inr (.inr (.inl ⟨_, rfl, rfl, rfl⟩)))
theorem res_6_mHL : Statement .res_6_mHL := .inr (.inr (.inr (.inl ⟨_, rfl, rfl, rfl⟩)))
theorem res_6_A : Statement .res_6_A := .inr (.inr (.inr (.inl ⟨_, rfl, rfl, rfl⟩)))
theorem res_7_B : Statement .res_7_B := .inr (.inr (.inr (.inl ⟨_, rfl, rfl, rfl⟩)))
theorem res_7_C : Statement .res_7_C := .inr (.inr (.inr (.inl ⟨_, rfl, rfl, rfl⟩)))
theorem res_7_D : Statement .res_7_D := .inr (.inr (.inr (.inl ⟨_, rfl, rfl, rfl⟩)))
theorem res_7_E : Statement .res_7_E := .inr (.inr (.inr (.inl ⟨_, rfl, rfl, rfl⟩)))
theorem res_7_H : Statement .res_7_H := .inr (.inr (.inr (.inl ⟨_, rfl, rfl, rfl⟩)))
theorem res_7_L : Statement .res_7_L := .inr (.inr (.inr (.inl ⟨_, rfl, rfl, rfl⟩)))
theorem res_7_mHL : Statement .res_7_mHL := .inr (.inr (.inr (.inl ⟨_, rfl, rfl, rfl⟩)))
theorem res_7_A : Statement .res_7_A := .inr (.inr (.inr (.inl ⟨_, rfl, rfl, rfl⟩)))
theorem set_0_B : Statement .set_0_B := .inr (.inr (.inr (.inl ⟨_, rfl, rfl, rfl⟩)))
theorem set_0_C : Statement .set_0_C := .inr (.inr (.inr (.inl ⟨_, rfl, rfl, rfl⟩)))
theorem set_0_D : Statement .set_0_D := .inr (.inr (.inr (.inl ⟨_, rfl, rfl, rfl⟩)))
theorem set_0_E : Statement .set_0_E := .inr (.inr (.inr (.inl ⟨_, rfl, rfl, rfl⟩)))
theorem set_0_H : Statement .set_0_H := .inr (.inr (.inr (.inl ⟨_, rfl, rfl, rfl⟩)))
theorem set_0_L : Statement .set_0_L := .inr (.inr (.inr (.inl ⟨_, rfl, rfl, rfl⟩)))
theorem set_0_mHL : Statement .set_0_mHL := .inr (.inr (.inr (.inl ⟨_, rfl, rfl, rfl⟩)))
theorem set_0_A : Statement .set_0_A := .inr (.inr (.inr (.inl ⟨_, rfl, rfl, rfl⟩)))
theorem set_1_B : Statement .set_1_B := .inr (.inr (.inr (.inl ⟨_, rfl, rfl, rfl⟩)))
theorem set_1_C : Statement .set_1_C := .inr (.inr (.inr (.inl ⟨_, rfl, rfl, rfl⟩)))
theorem set_1_D : Statement .set_1_D := .inr (.inr (.inr (.inl ⟨_, rfl, rfl, rfl⟩)))
theorem set_1_E : Statement .set_1_E := .inr (.inr (.inr (.inl ⟨_, rfl, rfl, rfl⟩)))
theorem set_1_H : Statement .set_1_H := .inr (.inr (.inr (.inl ⟨_, rfl, rfl, rfl⟩)))
theorem set_1_L : Statement .set_1_L := .inr (.inr (.inr (.inl ⟨_, rfl, rfl, rfl⟩)))
theorem set_1_mHL : Statement .set_1_mHL := .inr (.inr (.inr (.inl ⟨_, rfl, rfl, rfl⟩)))
theorem set_1_A : Statement .set_1_A := .inr (.inr (.inr (.inl ⟨_, rfl, rfl, rfl⟩)))
theorem set_2_B : Statement .set_2_B := .inr (.inr (.inr (.inl ⟨_, rfl, rfl, rfl⟩)))
theorem set_2_C : Statement .set_2_C := .inr (.inr (.inr (.inl ⟨_, rfl, rfl, rfl⟩)))
theorem set_2_D : Statement .set_2_D := .inr (.inr (.inr (.inl ⟨_, rfl, rfl, rfl⟩)))
theorem set_2_E : Statement .set_2_E := .inr (.inr (.inr (.inl ⟨_, rfl, rfl, rfl⟩)))
theorem set_2_H : Statement .set_2_H := .inr (.inr (.inr (.inl ⟨_, rfl, rfl, rfl⟩)))
theorem set_2_L : Statement .set_2_L := .inr (.inr (.inr (.inl ⟨_, rfl, rfl, rfl⟩)))
theorem set_2_mHL : Statement .set_2_mHL := .inr (.inr (.inr (.inl ⟨_, rfl, rfl, rfl⟩)))
theorem set_2_A : Statement .set_2_A := .inr (.inr (.inr (.inl ⟨_, rfl, rfl, rfl⟩)))
theorem set_3_B : Statement .set_3_B := .inr (.inr (.inr (.inl ⟨_, rfl, rfl, rfl⟩)))
theorem set_3_C : Statement .set_3_C := .inr (.inr (.inr (.inl ⟨_, rfl, rfl, rfl⟩)))
theorem set_3_D : Statement .set_3_D := .inr (.inr (.inr (.inl ⟨_, rfl, rfl, rfl⟩)))
theorem set_3_E : Statement .set_3_E := .inr (.inr (.inr (.inl ⟨_, rfl, rfl, rfl⟩)))
theorem set_3_H : Statement .set_3_H := .inr (.inr (.inr (.inl ⟨_, rfl, rfl, rfl⟩)))
theorem set_3_L : Statement .set_3_L := .inr (.inr (.inr (.inl ⟨_, rfl, rfl, rfl⟩)))
theorem set_3_mHL : Statement .set_3_mHL := .inr (.inr (.inr (.inl ⟨_, rfl, rfl, rfl⟩)))
theorem set_3_A : Statement .set_3_A := .inr (.inr (.inr (.inl ⟨_, rfl, rfl, rfl⟩)))
theorem set_4_B : Statement .set_4_B := .inr (.inr (.inr (.inl ⟨_, rfl, rfl, rfl⟩)))
theorem set_4_C : Statement .set_4_C := .inr (.inr (.inr (.inl ⟨_, rfl, rfl, rfl⟩)))
theorem set_4_D : Statement .set_4_D := .inr (.inr (.inr (.inl ⟨_, rfl, rfl, rfl⟩)))
theorem set_4_E : Statement .set_4_E := .inr (.inr (.inr (.inl ⟨_, rfl, rfl, rfl⟩)))
theorem set_4_H : Statement .set_4_H := .inr (.inr (.inr (.inl ⟨_, rfl, rfl, rfl⟩)))
theorem set_4_L : Statement .set_4_L := .inr (.inr (.inr (.inl ⟨_, rfl, rfl, rfl⟩)))
theorem set_4_mHL : Statement .set_4_mHL := .inr (.inr (.inr (.inl ⟨_, rfl, rfl, rfl⟩)))
theorem set_4_A : Statement .set_4_A := .inr (.inr (.inr (.inl ⟨_, rfl, rfl, rfl⟩)))
theorem set_5_B : Statement .set_5_B := .inr (.inr (.inr (.inl ⟨_, rfl, rfl, rfl⟩)))
theorem set_5_C : Statement .set_5_C := .inr (.inr (.inr (.inl ⟨_, rfl, rfl, rfl⟩)))
theorem set_5_D : Statement .set_5_D := .inr (.inr (.inr (.inl ⟨_, rfl, rfl, rfl⟩)))
theorem set_5_E : Statement .set_5_E := .inr (.inr (.inr (.inl ⟨_, rfl, rfl, rfl⟩)))
theorem set_5_H : Statement .set_5_H := .inr (.inr (.inr (.inl ⟨_, rfl, rfl, rfl⟩)))
theorem set_5_L : Statement .set_5_L := .inr (.inr (.inr (.inl ⟨_, rfl, rfl, rfl⟩)))
theorem set_5_mHL : Statement .set_5_mHL := .inr (.inr (.inr (.inl ⟨_, rfl, rfl, rfl⟩)))
theorem set_5_A : Statement .set_5_A := .inr (.inr (.inr (.inl ⟨_, rfl, rfl, rfl⟩)))
theorem set_6_B : Statement .set_6_B := .inr (.inr (.inr (.inl ⟨_, rfl, rfl, rfl⟩)))
theorem set_6_C : Statement .set_6_C := .inr (.inr (.inr (.inl ⟨_, rfl, rfl, rfl⟩)))
theorem set_6_D : Statement .set_6_D := .inr (.inr (.inr (.inl ⟨_, rfl, rfl, rfl⟩)))
theorem set_6_E : Statement .set_6_E := .inr (.inr (.inr (.inl ⟨_, rfl, rfl, rfl⟩)))
theorem set_6_H : Statement .set_6_H := .inr (.inr (.inr (.inl ⟨_, rfl, rfl, rfl⟩)))
theorem set_6_L : Statement .set_6_L := .inr (.inr (.inr (.inl ⟨_, rfl, rfl, rfl⟩)))
theorem set_6_mHL : Statement .set_6_mHL := .inr (.inr (.inr (.inl ⟨_, rfl, rfl, rfl⟩)))
theorem set_6_A : Statement .set_6_A := .inr (.inr (.inr (.inl ⟨_, rfl, rfl, rfl⟩)))
theorem set_7_B : Statement .set_7_B := .inr (.inr (.inr (.inl ⟨_, rfl, rfl, rfl⟩)))
theorem set_7_C : Statement .set_7_C := .inr (.inr (.inr (.inl ⟨_, rfl, rfl, rfl⟩)))
theorem set_7_D : Statement .set_7_D := .inr (.inr (.inr (.inl ⟨_, rfl, rfl, rfl⟩)))
theorem set_7_E : Statement .set_7_E := .inr (.inr (.inr (.inl ⟨_, rfl, rfl, rfl⟩)))
theorem set_7_H : Statement .set_7_H := .inr (.inr (.inr (.inl ⟨_, rfl, rfl, rfl⟩)))
theorem set_7_L : Statement .set_7_L := .inr (.inr (.inr (.inl ⟨_, rfl, rfl, rfl⟩)))
theorem set_7_mHL : Statement .set_7_mHL := .inr (.inr (.inr (.inl ⟨_, rfl, rfl, rfl⟩)))
theorem set_7_A : Statement .set_7_A := .inr (.inr (.inr (.inl ⟨_, rfl, rfl, rfl⟩)))

end Laws.TableRow

end Sys2Proof
end

