-- ==== Sys2Proof/Laws/PpuRegs.lean ====
section
/-! SUPPORT. Packing after unpacking gives the byte back, for LCDC at any eight different positions and for BGP; what the packed
bytes hold; and the read of a byte just stored, in memory or in a PPU register. -/

namespace Sys2Proof.Machine

/-- One bit of a shifted one. -/
theorem getLsbD_bit (on : Bool) (pos i : Fin 8) :
    (if on then 1#8 <<< pos.val else 0#8).getLsbD i.val = (on && decide (i = pos)) := by
  revert on pos i; decide

/-- The bits of a packed LCDC (50_ppu.md R403, R404). -/
theorem Lcdc.getLsbD_pack (p : LcdcBits) (f : Lcdc) (i : Fin 8) :
    (f.pack p).getLsbD i.val =
      ((f.displayOn && decide (i = p.displayOn)) || (f.windowMapSelect && decide (i = p.windowMapSelect)) ||
        (f.windowOn && decide (i = p.windowOn)) || (f.tileDataSelect && decide (i = p.tileDataSelect)) ||
        (f.tileMapSelect && decide (i = p.tileMapSelect)) || (f.spriteSize && decide (i = p.spriteSize)) ||
        (f.spritesOn && decide (i = p.spritesOn)) || (f.backgroundOn && decide (i = p.backgroundOn))) := by
  simp only [Lcdc.pack, BitVec.getLsbD_or, getLsbD_bit]

/-- Eight different positions are all positions. -/
theorem LcdcBits.mem_positions {p : LcdcBits} (h : p.positions.Nodup) (i : Fin 8) : i ∈ p.positions := by
  have e : p.positions.toFinset = Finset.univ := by
    apply Finset.eq_univ_of_card
    rw [List.toFinset_card_of_nodup h]; rfl
  simpa [← e] using Finset.mem_univ i

/-- LCDC reads back what was written (50_ppu.md R403). -/
theorem Lcdc.pack_unpack {p : LcdcBits} (h : p.positions.Nodup) (v : Byte) : (Lcdc.unpack p v).pack p = v := by
  apply BitVec.eq_of_getLsbD_eq
  intro k hk
  have hd (q : Fin 8) : (v.getLsbD q && decide ((⟨k, hk⟩ : Fin 8) = q)) = (v.getLsbD k && decide ((⟨k, hk⟩ : Fin 8) = q)) := by
    by_cases e : (⟨k, hk⟩ : Fin 8) = q
    · subst e; rfl
    · simp [e]
  have hm := LcdcBits.mem_positions h ⟨k, hk⟩
  simp only [LcdcBits.positions, List.mem_cons, List.not_mem_nil, or_false] at hm
  refine (Lcdc.getLsbD_pack p _ ⟨k, hk⟩).trans ?_
  simp only [Lcdc.unpack, hd]
  cases v.getLsbD k
  · simp
  · rcases hm with e | e | e | e | e | e | e | e <;> simp [← e]

/-- BGP reads back what was written (50_ppu.md R408). -/
theorem Palette.pack_unpack (v : Byte) : (Palette.unpack v).pack = v := by
  revert v; decide +kernel

/-- The packed LCDC has each field at its own position (50_ppu.md R403, R404). -/
theorem Lcdc.pack_fields {p : LcdcBits} (h : p.positions.Nodup) (f : Lcdc) :
    (f.pack p).getLsbD p.displayOn = f.displayOn ∧ (f.pack p).getLsbD p.windowMapSelect = f.windowMapSelect ∧
    (f.pack p).getLsbD p.windowOn = f.windowOn ∧ (f.pack p).getLsbD p.tileDataSelect = f.tileDataSelect ∧
    (f.pack p).getLsbD p.tileMapSelect = f.tileMapSelect ∧ (f.pack p).getLsbD p.spriteSize = f.spriteSize ∧
    (f.pack p).getLsbD p.spritesOn = f.spritesOn ∧ (f.pack p).getLsbD p.backgroundOn = f.backgroundOn := by
  have off {x y : Fin 8} (h : ¬ x = y) : ¬ x = y ∧ ¬ y = x := ⟨h, Ne.symm h⟩
  simp only [LcdcBits.positions, List.nodup_cons, List.mem_cons, List.not_mem_nil, not_or, or_false] at h
  have h := h.imp (And.imp off (And.imp off (And.imp off (And.imp off (And.imp off (And.imp off off))))))
    (And.imp (And.imp off (And.imp off (And.imp off (And.imp off (And.imp off off)))))
      (And.imp (And.imp off (And.imp off (And.imp off (And.imp off off))))
        (And.imp (And.imp off (And.imp off (And.imp off off)))
          (And.imp (And.imp off (And.imp off off)) (And.imp (And.imp off off) (And.imp off id))))))
  simp only [Lcdc.getLsbD_pack, h, decide_true, decide_false, Bool.and_true, Bool.and_false, Bool.or_false, Bool.false_or,
    and_self]

/-- The palette's entries as numbers (50_ppu.md R408). -/
theorem Palette.unpack_eq (v : Byte) : Palette.unpack v =
    ⟨BitVec.ofNat 2 (v.toNat % 4), BitVec.ofNat 2 (v.toNat / 4 % 4), BitVec.ofNat 2 (v.toNat / 16 % 4),
      BitVec.ofNat 2 (v.toNat / 64)⟩ := by
  revert v; decide +kernel

/-- The PPU's addresses, written out. -/
theorem ppuRegister_iff (a : Word) : ppuRegister a.toNat = true ↔ a ∈ [(0xFF40 : Word), 0xFF42, 0xFF43, 0xFF44, 0xFF47] := by
  simp only [ppuRegister, Bool.or_eq_true, beq_iff_eq, List.mem_cons, List.not_mem_nil, or_false, ← BitVec.toNat_inj]
  simp [or_assoc]

/-- A byte stored from 0x8000 up is what the next read of its address gives (20_memory.md R69, R73, R74; 50_ppu.md R402). -/
theorem State.peek_poke_self {s : State} {a : Word} (v : Byte) (hm : s.mem.wf)
    (hc : ppuRegister a.toNat = false ∨ s.cfg.wf) (h : 0x8000 ≤ a.toNat) : (s.poke a v).peek a = v := by
  have h₁ : ¬ a.toNat < 0x100 := by omega
  have h₂ : ¬ a.toNat < 0x8000 := by omega
  simp only [State.peek, State.poke_bootOverlay, h₁, decide_false, Bool.and_false, State.poke_cfg, State.poke_ppu,
    State.poke_mem, h₂, false_or, Bool.false_eq_true, if_false]
  cases hp : ppuRegister a.toNat
  · simp [Memory.read_write _ _ _ hm]
  · have hw := hc.resolve_left (by simp [hp])
    simp only [ppuRegister, Bool.or_eq_true, beq_iff_eq] at hp
    rcases hp with (((hp | hp) | hp) | hp) | hp <;>
      simp [hp, Ppu.readReg, Ppu.writeReg, Palette.pack_unpack, Lcdc.pack_unpack hw.2.2.2]

end Sys2Proof.Machine
end

