-- ==== Sys2Proof/Tests/Slice0.lean ====
section
/-! SUPPORT. The model's own tests. Expected values are the spec's: the worked examples of the rules named and of
95_test_vectors.md, and words written out bit by bit from the encodings of 30_encoding.md and of each family's file. -/

namespace Sys2Proof.Tests

open Sys2Proof Sys2Proof.Machine

-- The tests are elaborated one after another: each waits for the kernel, and a waiting test holds a thread.
set_option Elab.async false

/-! ## Well-formedness: what the checks refuse -/

/-- The bare prefix is no instruction (R365). -/
theorem test_prefix_is_ill_formed : Instr.prefix_CB.wellFormed = false ∧ Instr.nop.wellFormed = true := by decide

/-- Memories out of form: out of order, an address twice, an entry equal to an unlisted address's byte. -/
theorem test_memory_out_of_form :
    ¬ Memory.wf [(2, 0x01), (1, 0x01)] ∧ ¬ Memory.wf [(1, 0x01), (1, 0x02)] ∧ ¬ Memory.wf [(1, 0x00)] ∧
      Memory.wf [(1, 0x01), (2, 0x01)] := by decide

/-- Parameters out of range (R6): a free instruction, no ticks, no history, two LCDC fields at one position; the defaults are in range. -/
theorem test_params_out_of_range :
    ¬ Params.wf { Params.default with costs := [⟨.primary 0x00, true, 0⟩] } ∧
      ¬ Params.wf { Params.default with tickScale := 0 } ∧ ¬ Params.wf { Params.default with historyDepth := 0 } ∧
      ¬ Params.wf { Params.default with lcdcBits := { Params.default.lcdcBits with displayOn := 0 } } ∧
      Params.default.wf := by decide

/-! ## Decoding: words written out from the encodings of the rules

One word for every constructor of `Instr`. -/

/-- What each byte string decodes to, where no byte is left over. -/
def decodeAll (words : List (List Byte)) : List (Option Instr) :=
  words.map fun w =>
    match decode w with
    | .ok (i, []) => some i
    | _ => none

/-- Too few bytes are rejected by name (R115), and the bare prefix among them. -/
theorem test_truncated_words :
    decode [] = .error .noByte ∧ decode [0x3E] = .error (.truncated 0x3E) ∧ decode [0xC3, 0x00] = .error (.truncated 0xC3) ∧
      decode [0xCB] = .error (.truncated 0xCB) := ⟨rfl, rfl, rfl, rfl⟩

/-- Words numbered as spec/opcode_table.json numbers them: bit 0 the least significant of the first byte (Log 9). -/
theorem test_table_words :
    decodeTableWord 8 0x3C = some .inc_A ∧ decodeTableWord 24 0x0100C3 = some (.jp_nn 0x0100) ∧
      decodeTableWord 16 0x7ECB = some .bit_7_mHL ∧ decodeTableWord 8 0xC3 = some (.jp_nn 0) := ⟨rfl, rfl, rfl, rfl⟩

/-- R200, R202, R203: `01 rrr r'r'r'`, with `110` for `(HL)`. -/
theorem test_decode_ld_r_r_1 : decodeAll
    [[0b01000000], [0b01000001], [0b01000010], [0b01000011], [0b01000100], [0b01000101], [0b01000110], [0b01000111],
      [0b01001000], [0b01001001], [0b01001010], [0b01001011], [0b01001100], [0b01001101], [0b01001110], [0b01001111],
      [0b01010000], [0b01010001], [0b01010010], [0b01010011], [0b01010100], [0b01010101], [0b01010110], [0b01010111],
      [0b01011000], [0b01011001], [0b01011010], [0b01011011], [0b01011100], [0b01011101], [0b01011110], [0b01011111]] =
    [some .ld_B_B, some .ld_B_C, some .ld_B_D, some .ld_B_E, some .ld_B_H, some .ld_B_L, some .ld_B_mHL, some .ld_B_A,
      some .ld_C_B, some .ld_C_C, some .ld_C_D, some .ld_C_E, some .ld_C_H, some .ld_C_L, some .ld_C_mHL,
      some .ld_C_A, some .ld_D_B, some .ld_D_C, some .ld_D_D, some .ld_D_E, some .ld_D_H, some .ld_D_L,
      some .ld_D_mHL, some .ld_D_A, some .ld_E_B, some .ld_E_C, some .ld_E_D, some .ld_E_E, some .ld_E_H,
      some .ld_E_L, some .ld_E_mHL, some .ld_E_A] := rfl

/-- R200, R202, R203: `01 rrr r'r'r'`, with `110` for `(HL)`. -/
theorem test_decode_ld_r_r_2 : decodeAll
    [[0b01100000], [0b01100001], [0b01100010], [0b01100011], [0b01100100], [0b01100101], [0b01100110], [0b01100111],
      [0b01101000], [0b01101001], [0b01101010], [0b01101011], [0b01101100], [0b01101101], [0b01101110], [0b01101111],
      [0b01110000], [0b01110001], [0b01110010], [0b01110011], [0b01110100], [0b01110101], [0b01110111], [0b01111000],
      [0b01111001], [0b01111010], [0b01111011], [0b01111100], [0b01111101], [0b01111110], [0b01111111]] =
    [some .ld_H_B, some .ld_H_C, some .ld_H_D, some .ld_H_E, some .ld_H_H, some .ld_H_L, some .ld_H_mHL, some .ld_H_A,
      some .ld_L_B, some .ld_L_C, some .ld_L_D, some .ld_L_E, some .ld_L_H, some .ld_L_L, some .ld_L_mHL,
      some .ld_L_A, some .ld_mHL_B, some .ld_mHL_C, some .ld_mHL_D, some .ld_mHL_E, some .ld_mHL_H, some .ld_mHL_L,
      some .ld_mHL_A, some .ld_A_B, some .ld_A_C, some .ld_A_D, some .ld_A_E, some .ld_A_H, some .ld_A_L,
      some .ld_A_mHL, some .ld_A_A] := rfl

/-- R201, R204 to R217. -/
theorem test_decode_ld_other : decodeAll
    [[0b00000110, 0x5A], [0b00001110, 0x5A], [0b00010110, 0x5A], [0b00011110, 0x5A], [0b00100110, 0x5A],
      [0b00101110, 0x5A], [0b00110110, 0x5A], [0b00111110, 0x5A], [0b00000010], [0b00010010], [0b00001010],
      [0b00011010], [0b11111010, 0x34, 0x12], [0b11101010, 0x34, 0x12], [0b11110000, 0x5A], [0b11100000, 0x5A],
      [0b11100010], [0b00100010], [0b00101010], [0b00110010], [0b00111010]] =
    [some (.ld_B_n 0x5A), some (.ld_C_n 0x5A), some (.ld_D_n 0x5A), some (.ld_E_n 0x5A), some (.ld_H_n 0x5A),
      some (.ld_L_n 0x5A), some (.ld_mHL_n 0x5A), some (.ld_A_n 0x5A), some .ld_mBC_A, some .ld_mDE_A, some .ld_A_mBC,
      some .ld_A_mDE, some (.ld_A_mNN 0x1234), some (.ld_mNN_A 0x1234), some (.ldh_A_mN 0x5A), some (.ldh_mN_A 0x5A),
      some .ld_mC_A, some .ld_mHLI_A, some .ld_A_mHLI, some .ld_mHLD_A, some .ld_A_mHLD] := rfl

/-- R230 to R235. -/
theorem test_decode_load16 : decodeAll
    [[0b00000001, 0x34, 0x12], [0b00010001, 0x34, 0x12], [0b00100001, 0x34, 0x12], [0b00110001, 0x34, 0x12],
      [0b11000101], [0b11010101], [0b11100101], [0b11110101], [0b11000001], [0b11010001], [0b11100001], [0b11110001],
      [0b00001000, 0x34, 0x12], [0b11111001], [0b11111000, 0x5A]] =
    [some (.ld_BC_nn 0x1234), some (.ld_DE_nn 0x1234), some (.ld_HL_nn 0x1234), some (.ld_SP_nn 0x1234),
      some .push_BC, some .push_DE, some .push_HL, some .push_AF, some .pop_BC, some .pop_DE, some .pop_HL,
      some .pop_AF, some (.ld_mNN_SP 0x1234), some .ld_SP_HL, some (.ld_HL_SPe 0x5A)] := rfl

/-- R250 to R257: `10 ooo zzz`. -/
theorem test_decode_acc_r_1 : decodeAll
    [[0b10000000], [0b10000001], [0b10000010], [0b10000011], [0b10000100], [0b10000101], [0b10000110], [0b10000111],
      [0b10001000], [0b10001001], [0b10001010], [0b10001011], [0b10001100], [0b10001101], [0b10001110], [0b10001111],
      [0b10010000], [0b10010001], [0b10010010], [0b10010011], [0b10010100], [0b10010101], [0b10010110], [0b10010111],
      [0b10011000], [0b10011001], [0b10011010], [0b10011011], [0b10011100], [0b10011101], [0b10011110], [0b10011111]] =
    [some .add_A_B, some .add_A_C, some .add_A_D, some .add_A_E, some .add_A_H, some .add_A_L, some .add_A_mHL,
      some .add_A_A, some .adc_A_B, some .adc_A_C, some .adc_A_D, some .adc_A_E, some .adc_A_H, some .adc_A_L,
      some .adc_A_mHL, some .adc_A_A, some .sub_A_B, some .sub_A_C, some .sub_A_D, some .sub_A_E, some .sub_A_H,
      some .sub_A_L, some .sub_A_mHL, some .sub_A_A, some .sbc_A_B, some .sbc_A_C, some .sbc_A_D, some .sbc_A_E,
      some .sbc_A_H, some .sbc_A_L, some .sbc_A_mHL, some .sbc_A_A] := rfl

/-- R250 to R257: `10 ooo zzz`. -/
theorem test_decode_acc_r_2 : decodeAll
    [[0b10100000], [0b10100001], [0b10100010], [0b10100011], [0b10100100], [0b10100101], [0b10100110], [0b10100111],
      [0b10101000], [0b10101001], [0b10101010], [0b10101011], [0b10101100], [0b10101101], [0b10101110], [0b10101111],
      [0b10110000], [0b10110001], [0b10110010], [0b10110011], [0b10110100], [0b10110101], [0b10110110], [0b10110111],
      [0b10111000], [0b10111001], [0b10111010], [0b10111011], [0b10111100], [0b10111101], [0b10111110], [0b10111111]] =
    [some .and_A_B, some .and_A_C, some .and_A_D, some .and_A_E, some .and_A_H, some .and_A_L, some .and_A_mHL,
      some .and_A_A, some .xor_A_B, some .xor_A_C, some .xor_A_D, some .xor_A_E, some .xor_A_H, some .xor_A_L,
      some .xor_A_mHL, some .xor_A_A, some .or_A_B, some .or_A_C, some .or_A_D, some .or_A_E, some .or_A_H,
      some .or_A_L, some .or_A_mHL, some .or_A_A, some .cp_A_B, some .cp_A_C, some .cp_A_D, some .cp_A_E,
      some .cp_A_H, some .cp_A_L, some .cp_A_mHL, some .cp_A_A] := rfl

/-- R250 to R269. -/
theorem test_decode_arith8 : decodeAll
    [[0b11000110, 0x5A], [0b11001110, 0x5A], [0b11010110, 0x5A], [0b11011110, 0x5A], [0b11100110, 0x5A],
      [0b11101110, 0x5A], [0b11110110, 0x5A], [0b11111110, 0x5A], [0b00000100], [0b00001100], [0b00010100],
      [0b00011100], [0b00100100], [0b00101100], [0b00110100], [0b00111100], [0b00000101], [0b00001101], [0b00010101],
      [0b00011101], [0b00100101], [0b00101101], [0b00110101], [0b00111101], [0b00000111], [0b00001111], [0b00010111],
      [0b00011111], [0b00100111], [0b00101111], [0b00110111], [0b00111111]] =
    [some (.add_A_n 0x5A), some (.adc_A_n 0x5A), some (.sub_A_n 0x5A), some (.sbc_A_n 0x5A), some (.and_A_n 0x5A),
      some (.xor_A_n 0x5A), some (.or_A_n 0x5A), some (.cp_A_n 0x5A), some .inc_B, some .inc_C, some .inc_D,
      some .inc_E, some .inc_H, some .inc_L, some .inc_mHL, some .inc_A, some .dec_B, some .dec_C, some .dec_D,
      some .dec_E, some .dec_H, some .dec_L, some .dec_mHL, some .dec_A, some .rlca, some .rrca, some .rla, some .rra,
      some .daa, some .cpl, some .scf, some .ccf] := rfl

/-- R280 to R283. -/
theorem test_decode_arith16 : decodeAll
    [[0b00000011], [0b00010011], [0b00100011], [0b00110011], [0b00001011], [0b00011011], [0b00101011], [0b00111011],
      [0b00001001], [0b00011001], [0b00101001], [0b00111001], [0b11101000, 0x5A]] =
    [some .inc_BC, some .inc_DE, some .inc_HL, some .inc_SP, some .dec_BC, some .dec_DE, some .dec_HL, some .dec_SP,
      some .add_HL_BC, some .add_HL_DE, some .add_HL_HL, some .add_HL_SP, some (.add_SP_e 0x5A)] := rfl

/-- R301 to R311. -/
theorem test_decode_control : decodeAll
    [[0b11000010, 0x34, 0x12], [0b11001010, 0x34, 0x12], [0b11010010, 0x34, 0x12], [0b11011010, 0x34, 0x12],
      [0b00100000, 0xFC], [0b00101000, 0xFC], [0b00110000, 0xFC], [0b00111000, 0xFC], [0b11000100, 0x34, 0x12],
      [0b11001100, 0x34, 0x12], [0b11010100, 0x34, 0x12], [0b11011100, 0x34, 0x12], [0b11000000], [0b11001000],
      [0b11010000], [0b11011000], [0b11000111], [0b11001111], [0b11010111], [0b11011111], [0b11100111], [0b11101111],
      [0b11110111], [0b11111111], [0b11000011, 0x34, 0x12], [0b11101001], [0b00011000, 0xFC],
      [0b11001101, 0x34, 0x12], [0b11001001], [0b11011001]] =
    [some (.jp_NZ_nn 0x1234), some (.jp_Z_nn 0x1234), some (.jp_NC_nn 0x1234), some (.jp_C_nn 0x1234),
      some (.jr_NZ_e 0xFC), some (.jr_Z_e 0xFC), some (.jr_NC_e 0xFC), some (.jr_C_e 0xFC), some (.call_NZ_nn 0x1234),
      some (.call_Z_nn 0x1234), some (.call_NC_nn 0x1234), some (.call_C_nn 0x1234), some .ret_NZ, some .ret_Z,
      some .ret_NC, some .ret_C, some .rst_00H, some .rst_08H, some .rst_10H, some .rst_18H, some .rst_20H,
      some .rst_28H, some .rst_30H, some .rst_38H, some (.jp_nn 0x1234), some .jp_mHL, some (.jr_e 0xFC),
      some (.call_nn 0x1234), some .ret, some .reti] := rfl

/-- R360 to R364, R366. -/
theorem test_decode_system : decodeAll
    [[0b00000000], [0b00010000], [0b01110110], [0b11110011], [0b11111011], [0xD3], [0xDB], [0xDD], [0xE3], [0xE4],
      [0xEB], [0xEC], [0xED], [0xF2], [0xF4], [0xFC], [0xFD]] =
    [some .nop, some .stop, some .halt, some .di, some .ei, some .illegal_D3, some .illegal_DB, some .illegal_DD,
      some .illegal_E3, some .illegal_E4, some .illegal_EB, some .illegal_EC, some .illegal_ED, some .illegal_F2,
      some .illegal_F4, some .illegal_FC, some .illegal_FD] := rfl

/-- R331 to R338: `0xCB`, `00 ooo zzz`. -/
theorem test_decode_cb_rot_1 : decodeAll
    [[0xCB, 0b00000000], [0xCB, 0b00000001], [0xCB, 0b00000010], [0xCB, 0b00000011], [0xCB, 0b00000100],
      [0xCB, 0b00000101], [0xCB, 0b00000110], [0xCB, 0b00000111], [0xCB, 0b00001000], [0xCB, 0b00001001],
      [0xCB, 0b00001010], [0xCB, 0b00001011], [0xCB, 0b00001100], [0xCB, 0b00001101], [0xCB, 0b00001110],
      [0xCB, 0b00001111], [0xCB, 0b00010000], [0xCB, 0b00010001], [0xCB, 0b00010010], [0xCB, 0b00010011],
      [0xCB, 0b00010100], [0xCB, 0b00010101], [0xCB, 0b00010110], [0xCB, 0b00010111], [0xCB, 0b00011000],
      [0xCB, 0b00011001], [0xCB, 0b00011010], [0xCB, 0b00011011], [0xCB, 0b00011100], [0xCB, 0b00011101],
      [0xCB, 0b00011110], [0xCB, 0b00011111]] =
    [some .rlc_B, some .rlc_C, some .rlc_D, some .rlc_E, some .rlc_H, some .rlc_L, some .rlc_mHL, some .rlc_A,
      some .rrc_B, some .rrc_C, some .rrc_D, some .rrc_E, some .rrc_H, some .rrc_L, some .rrc_mHL, some .rrc_A,
      some .rl_B, some .rl_C, some .rl_D, some .rl_E, some .rl_H, some .rl_L, some .rl_mHL, some .rl_A, some .rr_B,
      some .rr_C, some .rr_D, some .rr_E, some .rr_H, some .rr_L, some .rr_mHL, some .rr_A] := rfl

/-- R331 to R338: `0xCB`, `00 ooo zzz`. -/
theorem test_decode_cb_rot_2 : decodeAll
    [[0xCB, 0b00100000], [0xCB, 0b00100001], [0xCB, 0b00100010], [0xCB, 0b00100011], [0xCB, 0b00100100],
      [0xCB, 0b00100101], [0xCB, 0b00100110], [0xCB, 0b00100111], [0xCB, 0b00101000], [0xCB, 0b00101001],
      [0xCB, 0b00101010], [0xCB, 0b00101011], [0xCB, 0b00101100], [0xCB, 0b00101101], [0xCB, 0b00101110],
      [0xCB, 0b00101111], [0xCB, 0b00110000], [0xCB, 0b00110001], [0xCB, 0b00110010], [0xCB, 0b00110011],
      [0xCB, 0b00110100], [0xCB, 0b00110101], [0xCB, 0b00110110], [0xCB, 0b00110111], [0xCB, 0b00111000],
      [0xCB, 0b00111001], [0xCB, 0b00111010], [0xCB, 0b00111011], [0xCB, 0b00111100], [0xCB, 0b00111101],
      [0xCB, 0b00111110], [0xCB, 0b00111111]] =
    [some .sla_B, some .sla_C, some .sla_D, some .sla_E, some .sla_H, some .sla_L, some .sla_mHL, some .sla_A,
      some .sra_B, some .sra_C, some .sra_D, some .sra_E, some .sra_H, some .sra_L, some .sra_mHL, some .sra_A,
      some .swap_B, some .swap_C, some .swap_D, some .swap_E, some .swap_H, some .swap_L, some .swap_mHL,
      some .swap_A, some .srl_B, some .srl_C, some .srl_D, some .srl_E, some .srl_H, some .srl_L, some .srl_mHL,
      some .srl_A] := rfl

/-- R339: `0xCB`, `01 bbb zzz`. -/
theorem test_decode_cb_bit_1 : decodeAll
    [[0xCB, 0b01000000], [0xCB, 0b01000001], [0xCB, 0b01000010], [0xCB, 0b01000011], [0xCB, 0b01000100],
      [0xCB, 0b01000101], [0xCB, 0b01000110], [0xCB, 0b01000111], [0xCB, 0b01001000], [0xCB, 0b01001001],
      [0xCB, 0b01001010], [0xCB, 0b01001011], [0xCB, 0b01001100], [0xCB, 0b01001101], [0xCB, 0b01001110],
      [0xCB, 0b01001111], [0xCB, 0b01010000], [0xCB, 0b01010001], [0xCB, 0b01010010], [0xCB, 0b01010011],
      [0xCB, 0b01010100], [0xCB, 0b01010101], [0xCB, 0b01010110], [0xCB, 0b01010111], [0xCB, 0b01011000],
      [0xCB, 0b01011001], [0xCB, 0b01011010], [0xCB, 0b01011011], [0xCB, 0b01011100], [0xCB, 0b01011101],
      [0xCB, 0b01011110], [0xCB, 0b01011111]] =
    [some .bit_0_B, some .bit_0_C, some .bit_0_D, some .bit_0_E, some .bit_0_H, some .bit_0_L, some .bit_0_mHL,
      some .bit_0_A, some .bit_1_B, some .bit_1_C, some .bit_1_D, some .bit_1_E, some .bit_1_H, some .bit_1_L,
      some .bit_1_mHL, some .bit_1_A, some .bit_2_B, some .bit_2_C, some .bit_2_D, some .bit_2_E, some .bit_2_H,
      some .bit_2_L, some .bit_2_mHL, some .bit_2_A, some .bit_3_B, some .bit_3_C, some .bit_3_D, some .bit_3_E,
      some .bit_3_H, some .bit_3_L, some .bit_3_mHL, some .bit_3_A] := rfl

/-- R339: `0xCB`, `01 bbb zzz`. -/
theorem test_decode_cb_bit_2 : decodeAll
    [[0xCB, 0b01100000], [0xCB, 0b01100001], [0xCB, 0b01100010], [0xCB, 0b01100011], [0xCB, 0b01100100],
      [0xCB, 0b01100101], [0xCB, 0b01100110], [0xCB, 0b01100111], [0xCB, 0b01101000], [0xCB, 0b01101001],
      [0xCB, 0b01101010], [0xCB, 0b01101011], [0xCB, 0b01101100], [0xCB, 0b01101101], [0xCB, 0b01101110],
      [0xCB, 0b01101111], [0xCB, 0b01110000], [0xCB, 0b01110001], [0xCB, 0b01110010], [0xCB, 0b01110011],
      [0xCB, 0b01110100], [0xCB, 0b01110101], [0xCB, 0b01110110], [0xCB, 0b01110111], [0xCB, 0b01111000],
      [0xCB, 0b01111001], [0xCB, 0b01111010], [0xCB, 0b01111011], [0xCB, 0b01111100], [0xCB, 0b01111101],
      [0xCB, 0b01111110], [0xCB, 0b01111111]] =
    [some .bit_4_B, some .bit_4_C, some .bit_4_D, some .bit_4_E, some .bit_4_H, some .bit_4_L, some .bit_4_mHL,
      some .bit_4_A, some .bit_5_B, some .bit_5_C, some .bit_5_D, some .bit_5_E, some .bit_5_H, some .bit_5_L,
      some .bit_5_mHL, some .bit_5_A, some .bit_6_B, some .bit_6_C, some .bit_6_D, some .bit_6_E, some .bit_6_H,
      some .bit_6_L, some .bit_6_mHL, some .bit_6_A, some .bit_7_B, some .bit_7_C, some .bit_7_D, some .bit_7_E,
      some .bit_7_H, some .bit_7_L, some .bit_7_mHL, some .bit_7_A] := rfl

/-- R340: `0xCB`, `10 bbb zzz`. -/
theorem test_decode_cb_res_1 : decodeAll
    [[0xCB, 0b10000000], [0xCB, 0b10000001], [0xCB, 0b10000010], [0xCB, 0b10000011], [0xCB, 0b10000100],
      [0xCB, 0b10000101], [0xCB, 0b10000110], [0xCB, 0b10000111], [0xCB, 0b10001000], [0xCB, 0b10001001],
      [0xCB, 0b10001010], [0xCB, 0b10001011], [0xCB, 0b10001100], [0xCB, 0b10001101], [0xCB, 0b10001110],
      [0xCB, 0b10001111], [0xCB, 0b10010000], [0xCB, 0b10010001], [0xCB, 0b10010010], [0xCB, 0b10010011],
      [0xCB, 0b10010100], [0xCB, 0b10010101], [0xCB, 0b10010110], [0xCB, 0b10010111], [0xCB, 0b10011000],
      [0xCB, 0b10011001], [0xCB, 0b10011010], [0xCB, 0b10011011], [0xCB, 0b10011100], [0xCB, 0b10011101],
      [0xCB, 0b10011110], [0xCB, 0b10011111]] =
    [some .res_0_B, some .res_0_C, some .res_0_D, some .res_0_E, some .res_0_H, some .res_0_L, some .res_0_mHL,
      some .res_0_A, some .res_1_B, some .res_1_C, some .res_1_D, some .res_1_E, some .res_1_H, some .res_1_L,
      some .res_1_mHL, some .res_1_A, some .res_2_B, some .res_2_C, some .res_2_D, some .res_2_E, some .res_2_H,
      some .res_2_L, some .res_2_mHL, some .res_2_A, some .res_3_B, some .res_3_C, some .res_3_D, some .res_3_E,
      some .res_3_H, some .res_3_L, some .res_3_mHL, some .res_3_A] := rfl

/-- R340: `0xCB`, `10 bbb zzz`. -/
theorem test_decode_cb_res_2 : decodeAll
    [[0xCB, 0b10100000], [0xCB, 0b10100001], [0xCB, 0b10100010], [0xCB, 0b10100011], [0xCB, 0b10100100],
      [0xCB, 0b10100101], [0xCB, 0b10100110], [0xCB, 0b10100111], [0xCB, 0b10101000], [0xCB, 0b10101001],
      [0xCB, 0b10101010], [0xCB, 0b10101011], [0xCB, 0b10101100], [0xCB, 0b10101101], [0xCB, 0b10101110],
      [0xCB, 0b10101111], [0xCB, 0b10110000], [0xCB, 0b10110001], [0xCB, 0b10110010], [0xCB, 0b10110011],
      [0xCB, 0b10110100], [0xCB, 0b10110101], [0xCB, 0b10110110], [0xCB, 0b10110111], [0xCB, 0b10111000],
      [0xCB, 0b10111001], [0xCB, 0b10111010], [0xCB, 0b10111011], [0xCB, 0b10111100], [0xCB, 0b10111101],
      [0xCB, 0b10111110], [0xCB, 0b10111111]] =
    [some .res_4_B, some .res_4_C, some .res_4_D, some .res_4_E, some .res_4_H, some .res_4_L, some .res_4_mHL,
      some .res_4_A, some .res_5_B, some .res_5_C, some .res_5_D, some .res_5_E, some .res_5_H, some .res_5_L,
      some .res_5_mHL, some .res_5_A, some .res_6_B, some .res_6_C, some .res_6_D, some .res_6_E, some .res_6_H,
      some .res_6_L, some .res_6_mHL, some .res_6_A, some .res_7_B, some .res_7_C, some .res_7_D, some .res_7_E,
      some .res_7_H, some .res_7_L, some .res_7_mHL, some .res_7_A] := rfl

/-- R341: `0xCB`, `11 bbb zzz`. -/
theorem test_decode_cb_set_1 : decodeAll
    [[0xCB, 0b11000000], [0xCB, 0b11000001], [0xCB, 0b11000010], [0xCB, 0b11000011], [0xCB, 0b11000100],
      [0xCB, 0b11000101], [0xCB, 0b11000110], [0xCB, 0b11000111], [0xCB, 0b11001000], [0xCB, 0b11001001],
      [0xCB, 0b11001010], [0xCB, 0b11001011], [0xCB, 0b11001100], [0xCB, 0b11001101], [0xCB, 0b11001110],
      [0xCB, 0b11001111], [0xCB, 0b11010000], [0xCB, 0b11010001], [0xCB, 0b11010010], [0xCB, 0b11010011],
      [0xCB, 0b11010100], [0xCB, 0b11010101], [0xCB, 0b11010110], [0xCB, 0b11010111], [0xCB, 0b11011000],
      [0xCB, 0b11011001], [0xCB, 0b11011010], [0xCB, 0b11011011], [0xCB, 0b11011100], [0xCB, 0b11011101],
      [0xCB, 0b11011110], [0xCB, 0b11011111]] =
    [some .set_0_B, some .set_0_C, some .set_0_D, some .set_0_E, some .set_0_H, some .set_0_L, some .set_0_mHL,
      some .set_0_A, some .set_1_B, some .set_1_C, some .set_1_D, some .set_1_E, some .set_1_H, some .set_1_L,
      some .set_1_mHL, some .set_1_A, some .set_2_B, some .set_2_C, some .set_2_D, some .set_2_E, some .set_2_H,
      some .set_2_L, some .set_2_mHL, some .set_2_A, some .set_3_B, some .set_3_C, some .set_3_D, some .set_3_E,
      some .set_3_H, some .set_3_L, some .set_3_mHL, some .set_3_A] := rfl

/-- R341: `0xCB`, `11 bbb zzz`. -/
theorem test_decode_cb_set_2 : decodeAll
    [[0xCB, 0b11100000], [0xCB, 0b11100001], [0xCB, 0b11100010], [0xCB, 0b11100011], [0xCB, 0b11100100],
      [0xCB, 0b11100101], [0xCB, 0b11100110], [0xCB, 0b11100111], [0xCB, 0b11101000], [0xCB, 0b11101001],
      [0xCB, 0b11101010], [0xCB, 0b11101011], [0xCB, 0b11101100], [0xCB, 0b11101101], [0xCB, 0b11101110],
      [0xCB, 0b11101111], [0xCB, 0b11110000], [0xCB, 0b11110001], [0xCB, 0b11110010], [0xCB, 0b11110011],
      [0xCB, 0b11110100], [0xCB, 0b11110101], [0xCB, 0b11110110], [0xCB, 0b11110111], [0xCB, 0b11111000],
      [0xCB, 0b11111001], [0xCB, 0b11111010], [0xCB, 0b11111011], [0xCB, 0b11111100], [0xCB, 0b11111101],
      [0xCB, 0b11111110], [0xCB, 0b11111111]] =
    [some .set_4_B, some .set_4_C, some .set_4_D, some .set_4_E, some .set_4_H, some .set_4_L, some .set_4_mHL,
      some .set_4_A, some .set_5_B, some .set_5_C, some .set_5_D, some .set_5_E, some .set_5_H, some .set_5_L,
      some .set_5_mHL, some .set_5_A, some .set_6_B, some .set_6_C, some .set_6_D, some .set_6_E, some .set_6_H,
      some .set_6_L, some .set_6_mHL, some .set_6_A, some .set_7_B, some .set_7_C, some .set_7_D, some .set_7_E,
      some .set_7_H, some .set_7_L, some .set_7_mHL, some .set_7_A] := rfl
/-! ## One step from the spec's examples -/

/-- The state after a step. -/
def after (s : State) : State :=
  match step s with
  | .next t => t
  | .fault _ => s
  | .refused _ => s

/-- A state after construction with the bytes at `a`, `pc` there, the overlay gone, and the change `f` (the conventions of
95_test_vectors.md). -/
def start (a : Word) (bytes : List Byte) (f : State → State) : State :=
  f (plantBytes { State.reset with bootOverlay := false, pc := a } a bytes)

/-- One step from there leaves a state with the property. -/
def runs (a : Word) (bytes : List Byte) (f : State → State) (p : State → Bool) : Bool := p (after (start a bytes f))

/-- R200. -/
theorem test_ld_A_B : runs 0x0100 [0x78] (fun s => s |>.setReg .B 0x5A)
    (fun t => t.reg .A == 0x5A && t.pc == 0x0101 && t.clock == 1) = true := by
  decide +kernel

/-- R201. -/
theorem test_ld_A_n : runs 0x0100 [0x3E, 0x05] (id)
    (fun t => t.reg .A == 0x05 && t.pc == 0x0102 && t.clock == 2) = true := by
  decide +kernel

/-- R202. -/
theorem test_ld_A_mHL : runs 0x0100 [0x7E] (fun s => s |>.setPair .HL 0xC000 |>.poke 0xC000 0x12)
    (fun t => t.reg .A == 0x12 && t.clock == 2) = true := by
  decide +kernel

/-- R202. -/
theorem test_ld_H_mHL : runs 0x0100 [0x66] (fun s => s |>.setPair .HL 0xC010 |>.poke 0xC010 0x99)
    (fun t => t.pair .HL == 0x9910) = true := by
  decide +kernel

/-- R203. -/
theorem test_ld_mHL_B : runs 0x0100 [0x70] (fun s => s |>.setPair .HL 0xC010 |>.setReg .B 0x99)
    (fun t => t.peek 0xC010 == 0x99 && t.clock == 2) = true := by
  decide +kernel

/-- R204. -/
theorem test_ld_mHL_n : runs 0x0100 [0x36, 0x81] (fun s => s |>.setPair .HL 0xC000)
    (fun t => t.peek 0xC000 == 0x81 && t.pc == 0x0102 && t.clock == 3) = true := by
  decide +kernel

/-- R205. -/
theorem test_ld_A_mBC : runs 0x0100 [0x0A] (fun s => s |>.setPair .BC 0x8000 |>.poke 0x8000 0x3C)
    (fun t => t.reg .A == 0x3C) = true := by
  decide +kernel

/-- R206. -/
theorem test_ld_A_mDE_reads_cartridge : runs 0x0100 [0x1A] (fun s => s |>.setPair .DE 0x0100)
    (fun t => t.reg .A == 0x1A) = true := by
  decide +kernel

/-- R207, R408. -/
theorem test_ld_mBC_A_writes_palette : runs 0x0100 [0x02] (fun s => s |>.setPair .BC 0xFF47 |>.setReg .A 0xE4)
    (fun t => t.ppu.palette == ⟨0, 1, 2, 3⟩) = true := by
  decide +kernel

/-- R208. -/
theorem test_ld_mDE_A : runs 0x0100 [0x12] (fun s => s |>.setPair .DE 0x9800 |>.setReg .A 0x01)
    (fun t => t.peek 0x9800 == 0x01) = true := by
  decide +kernel

/-- R209, R407. -/
theorem test_ld_A_mNN_reads_LY : runs 0x0100 [0xFA, 0x44, 0xFF] (fun s => s |>.poke 0xFF44 0x63)
    (fun t => t.reg .A == 0x63 && t.pc == 0x0103 && t.clock == 4) = true := by
  decide +kernel

/-- R210. -/
theorem test_ld_mNN_A : runs 0x0100 [0xEA, 0x00, 0xC0] (fun s => s |>.setReg .A 0x77)
    (fun t => t.peek 0xC000 == 0x77) = true := by
  decide +kernel

/-- R210, R72. -/
theorem test_ld_mNN_A_to_rom : runs 0x0100 [0xEA, 0x00, 0x01] (fun s => s |>.setReg .A 0x77)
    (fun t => t.peek 0x0100 == 0xEA) = true := by
  decide +kernel

/-- R211, R408. -/
theorem test_ldh_A_mN : runs 0x0100 [0xF0, 0x47] (fun s => s |>.poke 0xFF47 0xE4)
    (fun t => t.reg .A == 0xE4 && t.clock == 3) = true := by
  decide +kernel

/-- R212. -/
theorem test_ldh_mN_A : runs 0x0100 [0xE0, 0x42] (fun s => s |>.setReg .A 0x10)
    (fun t => t.ppu.scrollY == 0x10) = true := by
  decide +kernel

/-- R213. -/
theorem test_ld_mC_A : runs 0x0100 [0xE2] (fun s => s |>.setReg .C 0x43 |>.setReg .A 0x08)
    (fun t => t.ppu.scrollX == 0x08) = true := by
  decide +kernel

/-- R214. -/
theorem test_ld_mHLI_A : runs 0x0100 [0x22] (fun s => s |>.setPair .HL 0xC000 |>.setReg .A 0x12 |>.setFlags ⟨true, false, true, false⟩)
    (fun t => t.peek 0xC000 == 0x12 && t.pair .HL == 0xC001 && t.flags == ⟨true, false, true, false⟩) = true := by
  decide +kernel

/-- R214. -/
theorem test_ld_mHLI_A_wraps : runs 0x0100 [0x22] (fun s => s |>.setPair .HL 0xFFFF |>.setReg .A 0x12)
    (fun t => t.peek 0xFFFF == 0x12 && t.pair .HL == 0x0000) = true := by
  decide +kernel

/-- R215. -/
theorem test_ld_A_mHLI : runs 0x0100 [0x2A] (fun s => s |>.setPair .HL 0xC000 |>.poke 0xC000 0x12)
    (fun t => t.reg .A == 0x12 && t.pair .HL == 0xC001) = true := by
  decide +kernel

/-- R216. -/
theorem test_ld_mHLD_A : runs 0x0100 [0x32] (fun s => s |>.setPair .HL 0xC001 |>.setReg .A 0x34)
    (fun t => t.peek 0xC001 == 0x34 && t.pair .HL == 0xC000) = true := by
  decide +kernel

/-- R217. -/
theorem test_ld_A_mHLD : runs 0x0100 [0x3A] (fun s => s |>.setPair .HL 0x9FFF |>.poke 0x9FFF 0xAA)
    (fun t => t.reg .A == 0xAA && t.pair .HL == 0x9FFE) = true := by
  decide +kernel

/-- R234. -/
theorem test_push_AF : runs 0x0100 [0xF5] (fun s => s |>.setReg .A 0x34 |>.setSp 0xFFFC)
    (fun t => t.sp == 0xFFFA && t.peek 0xFFFA == 0x00 && t.peek 0xFFFB == 0x34 && t.clock == 3) = true := by
  decide +kernel

/-- R235. -/
theorem test_pop_BC : runs 0x0100 [0xC1] (fun s => s |>.setSp 0xFFFA |>.poke 0xFFFB 0x34)
    (fun t => t.reg .C == 0x00 && t.reg .B == 0x34 && t.sp == 0xFFFC && t.clock == 3) = true := by
  decide +kernel

/-- R235, R27. -/
theorem test_pop_AF_drops_low_nibble : runs 0x0100 [0xF1] (fun s => s |>.setSp 0xFFFA |>.poke 0xFFFA 0x9F |>.poke 0xFFFB 0x34)
    (fun t => t.reg .A == 0x34 && t.flags == ⟨true, false, false, true⟩) = true := by
  decide +kernel

/-- R230. -/
theorem test_ld_HL_nn : runs 0x0100 [0x21, 0x00, 0xC0] (id)
    (fun t => t.reg .H == 0xC0 && t.reg .L == 0x00 && t.pc == 0x0103 && t.clock == 3) = true := by
  decide +kernel

/-- R230. -/
theorem test_ld_SP_nn : runs 0x0100 [0x31, 0xFE, 0xFF] (id)
    (fun t => t.sp == 0xFFFE) = true := by
  decide +kernel

/-- R231. -/
theorem test_ld_mNN_SP : runs 0x0100 [0x08, 0x00, 0xC0] (fun s => s |>.setSp 0xFFFE)
    (fun t => t.peek 0xC000 == 0xFE && t.peek 0xC001 == 0xFF && t.clock == 5) = true := by
  decide +kernel

/-- R232. -/
theorem test_ld_SP_HL : runs 0x0100 [0xF9] (fun s => s |>.setPair .HL 0xD000)
    (fun t => t.sp == 0xD000) = true := by
  decide +kernel

/-- R233. -/
theorem test_ld_HL_SPe : runs 0x0100 [0xF8, 0x02] (fun s => s |>.setSp 0xCFFE)
    (fun t => t.pair .HL == 0xD000 && t.flags == ⟨false, false, true, false⟩ && t.sp == 0xCFFE && t.clock == 3) = true := by
  decide +kernel

/-- R250. -/
theorem test_add_A_B : runs 0x0100 [0x80] (fun s => s |>.setReg .A 0x3A |>.setReg .B 0xC6)
    (fun t => t.reg .A == 0x00 && t.flags == ⟨true, false, true, true⟩ && t.clock == 1) = true := by
  decide +kernel

/-- R250. -/
theorem test_add_A_n : runs 0x0100 [0xC6, 0x01] (fun s => s |>.setReg .A 0xFF)
    (fun t => t.reg .A == 0x00 && t.flags == ⟨true, false, true, true⟩ && t.clock == 2) = true := by
  decide +kernel

/-- R251. -/
theorem test_adc_A_n : runs 0x0100 [0xCE, 0x00] (fun s => s |>.setReg .A 0xFF |>.setFlags ⟨false, false, false, true⟩)
    (fun t => t.reg .A == 0x00 && t.flags == ⟨true, false, true, true⟩) = true := by
  decide +kernel

/-- R252. -/
theorem test_sub_A_n : runs 0x0100 [0xD6, 0x0F] (fun s => s |>.setReg .A 0x3E)
    (fun t => t.reg .A == 0x2F && t.flags == ⟨false, true, true, false⟩) = true := by
  decide +kernel

/-- R253. -/
theorem test_sbc_A_n : runs 0x0100 [0xDE, 0x4F] (fun s => s |>.setReg .A 0x3B |>.setFlags ⟨false, false, false, true⟩)
    (fun t => t.reg .A == 0xEB && t.flags == ⟨false, true, true, true⟩) = true := by
  decide +kernel

/-- R254. -/
theorem test_and_A_n : runs 0x0100 [0xE6, 0x3F] (fun s => s |>.setReg .A 0x5A)
    (fun t => t.reg .A == 0x1A && t.flags == ⟨false, false, true, false⟩) = true := by
  decide +kernel

/-- R255. -/
theorem test_xor_A_n : runs 0x0100 [0xEE, 0x0F] (fun s => s |>.setReg .A 0xFF)
    (fun t => t.reg .A == 0xF0 && t.flags == ⟨false, false, false, false⟩) = true := by
  decide +kernel

/-- R256. -/
theorem test_or_A_n : runs 0x0100 [0xF6, 0x0F] (fun s => s |>.setReg .A 0x5A)
    (fun t => t.reg .A == 0x5F && t.flags == ⟨false, false, false, false⟩) = true := by
  decide +kernel

/-- R257. -/
theorem test_cp_A_n : runs 0x0100 [0xFE, 0x01] (fun s => s |>.setReg .A 0x01)
    (fun t => t.flags == ⟨true, true, false, false⟩ && t.reg .A == 0x01 && t.clock == 2) = true := by
  decide +kernel

/-- R258. -/
theorem test_inc_A : runs 0x0100 [0x3C] (fun s => s |>.setReg .A 0x05)
    (fun t => t.reg .A == 0x06 && t.flags == ⟨false, false, false, false⟩) = true := by
  decide +kernel

/-- R259. -/
theorem test_inc_mHL : runs 0x0100 [0x34] (fun s => s |>.setPair .HL 0xC000 |>.poke 0xC000 0xFF)
    (fun t => t.peek 0xC000 == 0x00 && t.flags == ⟨true, false, true, false⟩ && t.clock == 3) = true := by
  decide +kernel

/-- R260. -/
theorem test_dec_B : runs 0x0100 [0x05] (fun s => s |>.setReg .B 0x01)
    (fun t => t.reg .B == 0x00 && t.flags == ⟨true, true, false, false⟩ && t.clock == 1) = true := by
  decide +kernel

/-- R261. -/
theorem test_dec_mHL : runs 0x0100 [0x35] (fun s => s |>.setPair .HL 0xC000 |>.poke 0xC000 0x10)
    (fun t => t.peek 0xC000 == 0x0F && t.flags == ⟨false, true, true, false⟩ && t.clock == 3) = true := by
  decide +kernel

/-- R262. -/
theorem test_cpl : runs 0x0100 [0x2F] (fun s => s |>.setReg .A 0x35)
    (fun t => t.reg .A == 0xCA && t.flags == ⟨false, true, true, false⟩) = true := by
  decide +kernel

/-- R263. -/
theorem test_scf : runs 0x0100 [0x37] (fun s => s |>.setFlags ⟨true, true, true, false⟩)
    (fun t => t.flags == ⟨true, true, true, true⟩) = true := by
  decide +kernel

/-- R264. -/
theorem test_ccf : runs 0x0100 [0x3F] (fun s => s |>.setFlags ⟨false, true, true, true⟩)
    (fun t => t.flags == ⟨false, true, true, false⟩) = true := by
  decide +kernel

/-- R264. -/
theorem test_ccf_sets : runs 0x0100 [0x3F] (fun s => s |>.setFlags ⟨false, true, true, false⟩)
    (fun t => t.flags == ⟨false, true, true, true⟩) = true := by
  decide +kernel

/-- R265. -/
theorem test_rlca : runs 0x0100 [0x07] (fun s => s |>.setReg .A 0x85)
    (fun t => t.reg .A == 0x0B && t.flags == ⟨false, false, false, true⟩) = true := by
  decide +kernel

/-- R265. -/
theorem test_rlca_zero : runs 0x0100 [0x07] (id)
    (fun t => t.reg .A == 0x00 && t.flags == ⟨true, false, false, false⟩) = true := by
  decide +kernel

/-- R266. -/
theorem test_rrca : runs 0x0100 [0x0F] (fun s => s |>.setReg .A 0x3B)
    (fun t => t.reg .A == 0x9D && t.flags == ⟨false, false, false, true⟩) = true := by
  decide +kernel

/-- R267. -/
theorem test_rla : runs 0x0100 [0x17] (fun s => s |>.setReg .A 0x95 |>.setFlags ⟨false, false, false, true⟩)
    (fun t => t.reg .A == 0x2B && t.flags == ⟨false, false, false, true⟩) = true := by
  decide +kernel

/-- R268. -/
theorem test_rra : runs 0x0100 [0x1F] (fun s => s |>.setReg .A 0x81)
    (fun t => t.reg .A == 0x40 && t.flags == ⟨false, false, false, true⟩) = true := by
  decide +kernel

/-- R280. -/
theorem test_inc_BC : runs 0x0100 [0x03] (fun s => s |>.setPair .BC 0xFFFF)
    (fun t => t.pair .BC == 0x0000 && t.flags == ⟨true, false, true, false⟩ && t.clock == 1) = true := by
  decide +kernel

/-- R281. -/
theorem test_dec_DE : runs 0x0100 [0x1B] (fun s => s |>.setPair .DE 0x0001)
    (fun t => t.pair .DE == 0x0000 && t.flags == ⟨true, true, false, false⟩) = true := by
  decide +kernel

/-- R282. -/
theorem test_add_HL_BC : runs 0x0100 [0x09] (fun s => s |>.setPair .HL 0x8A23 |>.setPair .BC 0x0605)
    (fun t => t.pair .HL == 0x9028 && t.flags == ⟨false, false, true, false⟩) = true := by
  decide +kernel

/-- R282. -/
theorem test_add_HL_HL : runs 0x0100 [0x29] (fun s => s |>.setPair .HL 0x8A23)
    (fun t => t.pair .HL == 0x1446 && t.flags == ⟨false, false, true, true⟩) = true := by
  decide +kernel

/-- R283. -/
theorem test_add_SP_e_down : runs 0x0100 [0xE8, 0xFE] (fun s => s |>.setSp 0xD000)
    (fun t => t.sp == 0xCFFE && t.flags == ⟨false, false, false, true⟩) = true := by
  decide +kernel

/-- R283. -/
theorem test_add_SP_e_up : runs 0x0100 [0xE8, 0x7F] (fun s => s |>.setSp 0xCFFE)
    (fun t => t.sp == 0xD07D && t.flags == ⟨false, false, true, false⟩) = true := by
  decide +kernel

/-- R301. -/
theorem test_jp_nn : runs 0x0100 [0xC3, 0x00, 0x01] (id)
    (fun t => t.pc == 0x0100 && t.clock == 3) = true := by
  decide +kernel

/-- R302. -/
theorem test_jp_Z_not_taken : runs 0x0100 [0xCA, 0x34, 0x12] (id)
    (fun t => t.pc == 0x0103) = true := by
  decide +kernel

/-- R302. -/
theorem test_jp_Z_taken : runs 0x0100 [0xCA, 0x34, 0x12] (fun s => s |>.setFlags ⟨true, false, false, false⟩)
    (fun t => t.pc == 0x1234) = true := by
  decide +kernel

/-- R303. -/
theorem test_jp_mHL : runs 0x0100 [0xE9] (fun s => s |>.setPair .HL 0xC000)
    (fun t => t.pc == 0xC000 && t.clock == 1) = true := by
  decide +kernel

/-- R304. -/
theorem test_jr_e : runs 0x0100 [0x18, 0x03] (id)
    (fun t => t.pc == 0x0105 && t.clock == 2) = true := by
  decide +kernel

/-- R305. -/
theorem test_jr_NZ_taken : runs 0x0105 [0x20, 0xFC] (id)
    (fun t => t.pc == 0x0103) = true := by
  decide +kernel

/-- R305. -/
theorem test_jr_NZ_not_taken : runs 0x0105 [0x20, 0xFC] (fun s => s |>.setFlags ⟨true, false, false, false⟩)
    (fun t => t.pc == 0x0107) = true := by
  decide +kernel

/-- R306. -/
theorem test_call_nn : runs 0x010C [0xCD, 0x10, 0x01] (fun s => s |>.setSp 0xFFFE)
    (fun t => t.peek 0xFFFC == 0x0F && t.peek 0xFFFD == 0x01 && t.sp == 0xFFFC && t.pc == 0x0110 && t.clock == 5) = true := by
  decide +kernel

/-- R307. -/
theorem test_call_Z_taken : runs 0x0104 [0xCC, 0x0A, 0x01] (fun s => s |>.setSp 0xFFFE |>.setFlags ⟨true, false, false, false⟩)
    (fun t => t.sp == 0xFFFC && t.peek 0xFFFC == 0x07 && t.peek 0xFFFD == 0x01 && t.pc == 0x010A && t.clock == 5) = true := by
  decide +kernel

/-- R307. -/
theorem test_call_Z_not_taken : runs 0x0104 [0xCC, 0x0A, 0x01] (fun s => s |>.setSp 0xFFFE)
    (fun t => t.sp == 0xFFFE && t.pc == 0x0107 && t.clock == 3) = true := by
  decide +kernel

/-- R308. -/
theorem test_ret : runs 0x0100 [0xC9] (fun s => s |>.setSp 0xFFFC |>.poke 0xFFFC 0x0F |>.poke 0xFFFD 0x01)
    (fun t => t.pc == 0x010F && t.sp == 0xFFFE && t.clock == 4) = true := by
  decide +kernel

/-- R309. -/
theorem test_ret_C_taken : runs 0x0100 [0xD8] (fun s => s |>.setFlags ⟨false, false, false, true⟩ |>.setSp 0xFFFC |>.poke 0xFFFC 0x07 |>.poke 0xFFFD 0x01)
    (fun t => t.pc == 0x0107 && t.sp == 0xFFFE && t.clock == 5) = true := by
  decide +kernel

/-- R309. -/
theorem test_ret_C_not_taken : runs 0x0100 [0xD8] (fun s => s |>.setSp 0xFFFC)
    (fun t => t.pc == 0x0101 && t.sp == 0xFFFC && t.clock == 3) = true := by
  decide +kernel

/-- R310. -/
theorem test_reti : runs 0x0100 [0xD9] (fun s => s |>.setSp 0xFFFC |>.poke 0xFFFD 0x02)
    (fun t => t.pc == 0x0200 && t.sp == 0xFFFE && t.interruptsEnabled) = true := by
  decide +kernel

/-- R311. -/
theorem test_rst_38H : runs 0x0107 [0xFF] (fun s => s |>.setSp 0xFFFE)
    (fun t => t.peek 0xFFFC == 0x08 && t.peek 0xFFFD == 0x01 && t.sp == 0xFFFC && t.pc == 0x0038 && t.clock == 3) = true := by
  decide +kernel

/-- R331. -/
theorem test_rlc_mHL : runs 0x0100 [0xCB, 0x06] (fun s => s |>.setPair .HL 0xC000 |>.poke 0xC000 0x81)
    (fun t => t.peek 0xC000 == 0x03 && t.flags == ⟨false, false, false, true⟩ && t.clock == 4 && t.pc == 0x0102) = true := by
  decide +kernel

/-- R331. -/
theorem test_rlc_B_zero : runs 0x0100 [0xCB, 0x00] (id)
    (fun t => t.reg .B == 0x00 && t.flags == ⟨true, false, false, false⟩ && t.clock == 2) = true := by
  decide +kernel

/-- R332. -/
theorem test_rrc_C : runs 0x0100 [0xCB, 0x09] (fun s => s |>.setReg .C 0x01)
    (fun t => t.reg .C == 0x80 && t.flags == ⟨false, false, false, true⟩) = true := by
  decide +kernel

/-- R333. -/
theorem test_rl_C : runs 0x0100 [0xCB, 0x11] (fun s => s |>.setReg .C 0x80)
    (fun t => t.reg .C == 0x00 && t.flags == ⟨true, false, false, true⟩) = true := by
  decide +kernel

/-- R334. -/
theorem test_rr_A : runs 0x0100 [0xCB, 0x1F] (fun s => s |>.setReg .A 0x8A |>.setFlags ⟨false, false, false, true⟩)
    (fun t => t.reg .A == 0xC5 && t.flags == ⟨false, false, false, false⟩) = true := by
  decide +kernel

/-- R335. -/
theorem test_sla_A : runs 0x0100 [0xCB, 0x27] (fun s => s |>.setReg .A 0xFF)
    (fun t => t.reg .A == 0xFE && t.flags == ⟨false, false, false, true⟩) = true := by
  decide +kernel

/-- R336. -/
theorem test_sra_B : runs 0x0100 [0xCB, 0x28] (fun s => s |>.setReg .B 0x8A)
    (fun t => t.reg .B == 0xC5 && t.flags == ⟨false, false, false, false⟩) = true := by
  decide +kernel

/-- R337. -/
theorem test_swap_A : runs 0x0100 [0xCB, 0x37] (fun s => s |>.setReg .A 0x82 |>.setFlags ⟨false, true, true, true⟩)
    (fun t => t.reg .A == 0x28 && t.flags == ⟨false, false, false, false⟩) = true := by
  decide +kernel

/-- R338. -/
theorem test_srl_A : runs 0x0100 [0xCB, 0x3F] (fun s => s |>.setReg .A 0x01)
    (fun t => t.reg .A == 0x00 && t.flags == ⟨true, false, false, true⟩) = true := by
  decide +kernel

/-- R339. -/
theorem test_bit_7_mHL : runs 0x0100 [0xCB, 0x7E] (fun s => s |>.setPair .HL 0xC000 |>.poke 0xC000 0x03 |>.setFlags ⟨false, true, false, true⟩)
    (fun t => t.flags == ⟨true, false, true, true⟩ && t.clock == 3) = true := by
  decide +kernel

/-- R339. -/
theorem test_bit_7_H : runs 0x0100 [0xCB, 0x7C] (fun s => s |>.setReg .H 0x80)
    (fun t => t.flags == ⟨false, false, true, false⟩ && t.clock == 2) = true := by
  decide +kernel

/-- R340. -/
theorem test_res_0_mHL : runs 0x0100 [0xCB, 0x86] (fun s => s |>.setPair .HL 0xC000 |>.poke 0xC000 0x03 |>.setFlags ⟨true, true, false, true⟩)
    (fun t => t.peek 0xC000 == 0x02 && t.flags == ⟨true, true, false, true⟩ && t.clock == 4) = true := by
  decide +kernel

/-- R341. -/
theorem test_set_7_mHL : runs 0x0100 [0xCB, 0xFE] (fun s => s |>.setPair .HL 0xC000 |>.poke 0xC000 0x02)
    (fun t => t.peek 0xC000 == 0x82 && t.clock == 4) = true := by
  decide +kernel

/-- R341. -/
theorem test_set_0_A : runs 0x0100 [0xCB, 0xC7] (id)
    (fun t => t.reg .A == 0x01 && t.clock == 2) = true := by
  decide +kernel

/-- R360. -/
theorem test_nop : runs 0x0100 [0x00] (id)
    (fun t => t.pc == 0x0101 && t.clock == 1 && t.ppu.counter == 4) = true := by
  decide +kernel

/-- R361. -/
theorem test_stop : runs 0x0107 [0x10] (id)
    (fun t => t.pc == 0x0108 && !t.running && t.clock == 1) = true := by
  decide +kernel

/-- R362. -/
theorem test_halt : runs 0x0100 [0x76] (id)
    (fun t => t.pc == 0x0100 && t.clock == 1 && t.ppu.counter == 4) = true := by
  decide +kernel

/-- R363. -/
theorem test_di : runs 0x0100 [0xF3] (fun s => { s with interruptsEnabled := true })
    (fun t => !t.interruptsEnabled && t.pc == 0x0101 && t.clock == 1) = true := by
  decide +kernel

/-- R364. -/
theorem test_ei : runs 0x0100 [0xFB] (id)
    (fun t => t.interruptsEnabled && t.clock == 1) = true := by
  decide +kernel

/-- R366. -/
theorem test_removed_opcode : runs 0x0100 [0xD3] (id)
    (fun t => t.pc == 0x0101 && t.clock == 0 && t.log == [⟨.unsupportedOpcode, some 0xD3, 0x0100, [⟨0x0100, 0xD3⟩]⟩] && t.running) = true := by
  decide +kernel

/-- R269. -/
theorem test_daa : runs 0x0100 [0x27] (fun s => s |>.setReg .A 0x9A)
    (fun t => t.reg .A == 0x9A && t.pc == 0x0101 && t.clock == 0 && t.log.length == 1) = true := by
  decide +kernel

/-! ## The obligations' hypotheses are met

For each obligation with hypotheses, concrete states and operands that meet all of them, for each clause, at the edges of its range. -/

/-- `3E 05 3C` (`LD A,5`; `INC A`) at 0x0100, the boot overlay present (95_test_vectors.md E7). -/
def p1 : State := plantBytes { State.reset with pc := 0x0100 } 0x0100 [0x3E, 0x05, 0x3C]

/-- `D3` there. -/
def removedAt0100 : State := plantBytes { State.reset with pc := 0x0100 } 0x0100 [0xD3]

/-- `C3 34 12` at 0x0200, with the byte at `hole` unmapped. -/
def jumpWithHole (hole : Word) : State :=
  plantBytes { State.reset with pc := 0x0200, cfg := { Params.default with unmapped := [hole] } } 0x0200 [0xC3, 0x34, 0x12]

/-- A state after construction with one address unmapped. -/
def hole (a : Word) : State := { State.reset with cfg := { Params.default with unmapped := [a] } }

theorem test_meets_DecodeOfEncodeIsTheInstruction : (Instr.ld_A_n 0xFF).wellFormed = true := rfl

theorem test_meets_EncodeOfDecodeIsTheBytes :
    decode [0xC3, 0x34, 0x12, 0x00] = .ok (.jp_nn 0x1234, [0x00]) ∧ decode [0xCB, 0xFF] = .ok (.set_7_A, []) := ⟨rfl, rfl⟩

theorem test_meets_StepExecutesTheDecodedInstruction :
    p1.running = true ∧ decode (bytesAtPc p1) = .ok (.ld_A_n 0x05, [0x3C]) ∧
      FetchMapped p1 (Instr.ld_A_n 0x05).length := by
  refine ⟨rfl, rfl, ?_⟩
  intro k _
  rfl

theorem test_meets_OnlyStopEndsTheRun :
    (Session.shutdown State.reset).running = false ∧ (∃ t, exec .stop State.reset = .next t) ∧
      (∃ t, exec .nop State.reset = .next t) ∧ ∃ t, step p1 = .next t ∧ t.running = true :=
  ⟨rfl, ⟨_, rfl⟩, ⟨_, rfl⟩, _, rfl, rfl⟩

theorem test_meets_OverlayLeavesAtPc0100 :
    p1.running = true ∧ p1.pc = 0x0100 ∧ p1.bootOverlay = true ∧ (after p1).bootOverlay = false ∧
      (after State.reset).bootOverlay = true := by decide +kernel

theorem test_meets_StepRecordsTheOpcode : p1.running = true ∧ p1.unmappedAt p1.pc = false := ⟨rfl, rfl⟩

/-- A full history drops its oldest entry (R502). -/
theorem test_full_history :
    (after { p1 with history := List.replicate 10 ⟨0, 0x00⟩ }).history =
      List.replicate 9 ⟨0, 0x00⟩ ++ [⟨0x0100, 0x3E⟩] := by decide +kernel

/-- The opcode byte, the second byte and the third byte unmapped. -/
theorem test_meets_FailedFetchStopsThere :
    ((jumpWithHole 0x0200).running = true ∧ (jumpWithHole 0x0200).unmappedAt (jumpWithHole 0x0200).pc = true) ∧
    (decode (bytesAtPc (jumpWithHole 0x0201)) = .ok (.jp_nn 0x1234, []) ∧ FetchMapped (jumpWithHole 0x0201) 1 ∧
      (jumpWithHole 0x0201).unmappedAt ((jumpWithHole 0x0201).pc + BitVec.ofNat 16 1) = true) ∧
    (decode (bytesAtPc (jumpWithHole 0x0202)) = .ok (.jp_nn 0x1234, []) ∧ FetchMapped (jumpWithHole 0x0202) 2 ∧
      (jumpWithHole 0x0202).unmappedAt ((jumpWithHole 0x0202).pc + BitVec.ofNat 16 2) = true) := by
  have two (s : State) (h₀ : s.unmappedAt s.pc = false) (h₁ : s.unmappedAt (s.pc + 1) = false) : FetchMapped s 2 := by
    intro k hk
    obtain rfl | rfl : k = 0 ∨ k = 1 := by omega
    · rw [← h₀]; congr 1; exact BitVec.add_zero _
    · exact h₁
  refine ⟨⟨rfl, rfl⟩, ⟨rfl, ?_, rfl⟩, ⟨rfl, two _ rfl rfl, rfl⟩⟩
  intro k hk
  obtain rfl : k = 0 := by omega
  rfl

/-- The invariant holds of a state that is not the reset state, and steps, events and loads go on from it. -/
theorem test_meets_StepKeepsInv :
    StateInv { State.reset with pc := 0x0100, clock := 7 } ∧
      (∃ t, step { State.reset with pc := 0x0100, clock := 7 } = .next t) ∧
      (∃ t, Session.event .explicitReset { State.reset with pc := 0x0100, clock := 7 } = .next t) ∧
      ∃ t, Session.loadCartridge (List.replicate 0x8000 0x01) { State.reset with pc := 0x0100, clock := 7 } = .next t := by
  refine ⟨⟨Memory.wf_nil, ?_, Memory.wf_nil, ?_, by decide, ⟨List.length_replicate, ?_⟩, ?_, by decide, ?_⟩,
    ⟨_, rfl⟩, ⟨_, rfl⟩, ⟨_, by rw [Session.loadCartridge, if_neg (by rw [List.length_replicate]; decide)]⟩⟩
  · intro c h; cases h
  · intro c h; cases h
  · intro row h; rw [List.eq_of_mem_replicate h]; exact List.length_replicate
  · intro f h; cases h
  · intro r h; cases h

theorem test_meets_RomAndParametersNeverChange : (∃ t, step p1 = .next t) ∧ 0x7FFF < 0x8000 := ⟨⟨_, rfl⟩, by decide⟩

theorem test_meets_InterruptEnableOnlyGatesTheSample :
    (∃ t, exec .ei State.reset = .next t) ∧ (∃ t, exec .reti State.reset = .next t) ∧ (∃ t, step p1 = .next t) ∧
      ∃ t, step { p1 with interruptsEnabled := true, log := [⟨.memoryAccess, none, 0, []⟩] } = .next t :=
  ⟨⟨_, rfl⟩, ⟨_, rfl⟩, ⟨_, rfl⟩, _, rfl⟩

/-- The failing sample is what the enable gates (R513, R509). -/
theorem test_sample_raises :
    (after (start 0x0100 [0xFB] fun s => { s with cfg := { s.cfg with unmapped := [0xFF0F] } })).log =
      [⟨.memoryAccess, some 0xFB, 0x0100, [⟨0x0100, 0xFB⟩]⟩] := by decide +kernel

theorem test_meets_OnlyUnsupportedOpcodesFailByDefault :
    p1.cfg.unmapped = [] ∧ p1.running = true ∧ ∃ t, step p1 = .next t := ⟨rfl, rfl, _, rfl⟩

theorem test_meets_UnsupportedOpcodeIsLoggedAndSkipped :
    Instr.illegal_D3 ∈ Instr.unsupportedRows ∧ removedAt0100.running = true ∧
      removedAt0100.unmappedAt removedAt0100.pc = false ∧
      (leaveBoot removedAt0100).peek removedAt0100.pc = Instr.illegal_D3.opcode := ⟨by decide, rfl, rfl, rfl⟩

theorem test_meets_AluLaws : (⟨true, true, true, false⟩ : Flags).fC = false := rfl

theorem test_meets_PairsAreViewsOfTheRegisters : Reg8.A ≠ pairHi .BC ∧ Reg8.A ≠ pairLo .BC := by decide

/-- The edges of every region: 0x00FF under the overlay, 0x0100, 0x7FFF, 0x8000, 0xFF41, 0xFF45, 0xFF46, 0xFF48, 0xFFFF. -/
theorem test_meets_RegionsAndReadAfterWrite :
    (State.reset.bootOverlay = true ∧ (0x00FF : Word).toNat < 0x100) ∧
    ([(0x0100 : Word), 0xFF41, 0xFF45, 0xFF46, 0xFF48, 0xFFFF].all fun a =>
      decide (0x100 ≤ a.toNat) && decide (a ∉ [0xFF40, 0xFF42, 0xFF43, 0xFF44, 0xFF47])) = true ∧
    (State.reset.mem.wf ∧ State.reset.cfg.wf ∧ 0x8000 ≤ (0x8000 : Word).toNat ∧ 0x8000 ≤ (0xFFFF : Word).toNat) ∧
    (0x7FFF : Word).toNat < 0x8000 ∧ (0xFF43 : Word) ≠ 0xFF42 := by decide

/-- R408: "`0xE4` gives `palette = [0, 1, 2, 3]`"; R404: bits 7 and 3 are display-on and tile-map-select. -/
theorem test_ppu_register_stores :
    (State.reset.poke 0xFF47 0xE4).ppu.palette = ⟨0, 1, 2, 3⟩ ∧ (State.reset.poke 0xFF47 0x1B).ppu.palette = ⟨3, 2, 1, 0⟩ ∧
      (State.reset.poke 0xFF40 0x88).ppu.lcdc =
        { State.reset.ppu.lcdc with displayOn := true, tileMapSelect := true } := by decide

theorem test_meets_EqualReadsMeanEqualMemories : Memory.wf [(1, 0x01), (0xFFFF, 0xFF)] := by decide

/-- The lowest and the highest address of the read-back clause, both of its alternatives, and the wrapping address. -/
theorem test_meets_WordAccessIsLittleEndian :
    State.reset.mem.wf ∧ State.reset.cfg.wf ∧ (∀ a, State.reset.unmappedAt a = false) ∧
      (0x8000 ≤ (0x8000 : Word).toNat ∧ (0x8000 : Word) ≠ 0xFFFF) ∧ (0x8000 ≤ (0xFFFE : Word).toNat ∧ (0xFFFE : Word) ≠ 0xFFFF) ∧
      ppuRegister (0xFFFE : Word).toNat = false ∧ ppuRegister (0xFFFE + 1 : Word).toNat = false ∧
      (0xFFFF : Word) + 1 = 0x0000 := ⟨by decide, by decide, fun _ => rfl, by decide, by decide, rfl, rfl, rfl⟩

/-- Nothing is unmapped after construction: the hypotheses of `LoadByte`, `StoreByte`, `LoadWord`, `PushAndPop`,
`CallsAndRestarts`, `Returns` and `PrefixRunsTheExtendedRow` hold there at every address. -/
theorem test_meets_mapped : ∀ a, State.reset.unmappedAt a = false := fun _ => rfl

/-- The same of operands: `AccumulatorOperations`, `IncrementAndDecrement`, `ExtendedRotatesAndShifts`, `BitTestResetSet`. -/
theorem test_meets_mapped_operands :
    (∀ o, State.reset.operandUnmapped o = false) ∧ ∀ src, State.reset.sourceUnmapped src = false := by
  have h (o : Operand8) : State.reset.operandUnmapped o = false := by cases o <;> rfl
  refine ⟨h, fun src => ?_⟩
  cases src with
  | op o => exact h o
  | imm n => rfl

/-- Both values of `CCF_MODE` (`AccumulatorAndCarryOperations`), and each condition both ways (`Jumps`, `CallsAndRestarts`,
`Returns`). -/
theorem test_meets_modes_and_conditions :
    State.reset.cfg.ccfMode = .toggle ∧ ({ Params.default with ccfMode := .clear } : Params).ccfMode = .clear ∧
      State.reset.flags.holds .NZ = true ∧ State.reset.flags.holds .Z = false ∧ State.reset.flags.holds .NC = true ∧
      State.reset.flags.holds .C = false ∧ (⟨true, false, false, true⟩ : Flags).holds .Z = true ∧
      (⟨true, false, false, true⟩ : Flags).holds .C = true ∧ (⟨true, false, false, true⟩ : Flags).holds .NZ = false ∧
      (⟨true, false, false, true⟩ : Flags).holds .NC = false := by decide

theorem test_meets_PrefixRunsTheExtendedRow : (hole 0).unmappedAt (hole 0).pc = true := rfl

/-- Each address form at an unmapped byte. -/
theorem test_meets_UnmappedByteRaises :
    (hole 0).unmappedAt ((hole 0).pair .HL) = true ∧ (hole 0).unmappedAt ((hole 0).pair .BC) = true ∧
      (hole 0).unmappedAt ((hole 0).pair .DE) = true ∧ (hole 0xFFFF).unmappedAt 0xFFFF = true ∧
      (hole 0xFFFF).unmappedAt (0xFF00 + (0xFF : Byte).setWidth 16) = true ∧
      (hole 0xFF00).unmappedAt (0xFF00 + ((hole 0xFF00).reg .C).setWidth 16) = true := ⟨rfl, rfl, rfl, rfl, rfl, rfl⟩

/-- The low and the high byte of a push, of a pop and of `LD (nn),SP` unmapped. -/
theorem test_meets_UnmappedStackByteRaises :
    (hole 0xFFFE).unmappedAt ((hole 0xFFFE).sp - 2) = true ∧
      ((hole 0xFFFF).unmappedAt ((hole 0xFFFF).sp - 2) = false ∧ (hole 0xFFFF).unmappedAt ((hole 0xFFFF).sp - 1) = true) ∧
      (hole 0).unmappedAt (hole 0).sp = true ∧ (hole 1).unmappedAt ((hole 1).sp + 1) = true ∧
      (hole 0xC001).unmappedAt (0xC000 + 1) = true ∧ (hole 1).flags.holds .NZ = true :=
  ⟨rfl, ⟨rfl, rfl⟩, rfl, rfl, rfl, rfl⟩

/-- A failing push has moved `sp` and stored the low byte (R234). -/
theorem test_failing_push : runs 0x0100 [0xC5]
    (fun s => { (s.setSp 0xC002).setPair .BC 0x1234 with cfg := { s.cfg with unmapped := [0xC001] } })
    (fun t => t.sp == 0xC000 && t.peek 0xC000 == 0x34 && t.clock == 0 && t.log.length == 1) = true := by
  decide +kernel

/-- A store and a form that stores nothing, each with an address it leaves alone (`StoresGoWhereTheFormSays`,
`OtherFormsStoreNothing`). -/
theorem test_meets_stores :
    (∃ t, exec (.ld_mHL_n 0x81) State.reset = .next t) ∧ (0xC000 : Word) ≠ 0xFF44 ∧
      (0xC000 : Word) ∉ [State.reset.pair .HL] ∧ (∃ t, exec .cpl State.reset = .next t) ∧
      ∃ t, exec .push_BC State.reset = .next t := ⟨⟨_, rfl⟩, by decide, by decide, ⟨_, rfl⟩, _, rfl⟩

theorem test_meets_RegistersChangeOnlyAtTheDestination :
    (∃ t, exec .pop_BC State.reset = .next t) ∧ Reg8.A ∉ [pairHi .BC, pairLo .BC] := ⟨⟨_, rfl⟩, by decide⟩

theorem test_meets_FlagsChangeOnlyWhereTheTableSays :
    (∃ t, exec .ret State.reset = .next t) ∧ (∃ t, exec .inc_B State.reset = .next t) ∧ Instr.inc_B = .incOp (.reg .B) ∧
      (∃ t, exec .add_HL_BC State.reset = .next t) ∧ Instr.add_HL_BC = .addHL (.pair .BC) ∧
      ∃ t, exec .scf State.reset = .next t := ⟨⟨_, rfl⟩, ⟨_, rfl⟩, rfl, ⟨_, rfl⟩, rfl, _, rfl⟩

theorem test_meets_OnlyStackInstructionsMoveSp :
    ∃ t, exec .push_BC State.reset = .next t ∧ t.sp ≠ State.reset.sp := ⟨_, rfl, by decide⟩

/-- Each mode at its threshold, and below it. -/
theorem test_meets_TickRunsTheModeLoop :
    Ppu.reset.counter + 79 < modeLength Ppu.reset.mode ∧ (Ppu.reset.mode = .oamScan ∧ 80 ≤ Ppu.reset.counter + 80) ∧
      (let u := { Ppu.reset with mode := .pixelTransfer }; u.mode = .pixelTransfer ∧ 172 ≤ u.counter + 172) ∧
      (let u := { Ppu.reset with mode := .hBlank }; u.mode = .hBlank ∧ 204 ≤ u.counter + 204 ∧ u.line ≠ 142) ∧
      (let u := { Ppu.reset with mode := .hBlank, line := 142 }; u.mode = .hBlank ∧ 204 ≤ u.counter + 204 ∧ u.line = 142) ∧
      (let u := { Ppu.reset with mode := .vBlank, line := 153 }; u.mode = .vBlank ∧ 456 ≤ u.counter + 456) := by
  decide

theorem test_meets_FrameIs70224Cycles :
    (Ppu.reset.mode = .oamScan ∧ Ppu.reset.counter = 0 ∧ Ppu.reset.line = 0) ∧
      ({ Ppu.reset with line := 141 } : Ppu).line ≠ 142 ∧ ({ Ppu.reset with line := 142 } : Ppu).line = 142 := by
  decide

/-- The last pixel of the last line, the row above it, and the first line that is not rendered. -/
theorem test_meets_ScanlineRendersTheBackground :
    Ppu.reset.framebuffer.length = 144 ∧ ({ Ppu.reset with line := 143 } : Ppu).line.toNat < 144 ∧ 159 < 160 ∧
      142 ≠ ({ Ppu.reset with line := 143 } : Ppu).line.toNat ∧ 144 ≤ ({ Ppu.reset with line := 144 } : Ppu).line.toNat := by
  refine ⟨List.length_replicate, ?_, ?_, ?_, ?_⟩ <;> decide

/-- Six other fields set, and the fine scroll bits. -/
theorem test_meets_FieldsWithoutEffect :
    (⟨true, true, true, false, false, true, true, true⟩ : Lcdc).tileMapSelect = Ppu.reset.lcdc.tileMapSelect ∧
      (⟨true, true, true, false, false, true, true, true⟩ : Lcdc).tileDataSelect = Ppu.reset.lcdc.tileDataSelect ∧
      (7 : Byte).toNat / 8 = Ppu.reset.scrollX.toNat / 8 := by decide

theorem test_meets_HostEventsTouchNothingElse :
    ((List.replicate 0x7FFF (0x01 : Byte)).length < 0x8000 ∧ 0x8000 ≤ (List.replicate 0x8000 (0x01 : Byte)).length) ∧
      State.reset.running = true ∧ (Session.shutdown State.reset).running = false := by
  refine ⟨?_, rfl, rfl⟩
  rw [List.length_replicate, List.length_replicate]
  decide

/-- An entry of `COST` for a taken `JR Z,e` behind one for the same row not taken and one for another row; the row of `RLC B`. -/
theorem test_meets_SystemInstructions :
    let other : List CostEntry := [⟨.primary 0x28, false, 9⟩, ⟨.primary 0x20, true, 8⟩]
    (∀ x ∈ other, ¬ (x.row = .primary 0x28 ∧ x.taken = true)) ∧
      costOf { Params.default with costs := other ++ [⟨.primary 0x28, true, 3⟩, ⟨.primary 0x28, true, 7⟩] } (.primary 0x28)
        ⟨true, 2⟩ = 3 ∧
      costOf { Params.default with costs := other } (.primary 0x28) ⟨true, 2⟩ = 2 ∧
      encode .rlc_B = [0xCB, 0x00] ∧ ∀ sub : Byte, encode .nop ≠ [0xCB, sub] := by
  refine ⟨by decide, by decide, by decide, rfl, fun sub h => ?_⟩
  cases h

/-- A boot program of 256 bytes, and its first and last byte. -/
theorem test_meets_FirstFetchIsBootRomByte0 :
    (List.replicate 256 (0x01 : Byte)).length = 256 ∧ State.reset.bootOverlay = true ∧ 0 < 256 ∧ 255 < 256 :=
  ⟨List.length_replicate, rfl, by decide, by decide⟩

end Sys2Proof.Tests
end

section
/-! SUPPORT. The pairs as views of the stored registers (10_state.md R21), and what settles O25. -/

namespace Sys2Proof.Machine

theorem State.reg_setReg_ne (s : State) {r q : Reg8} (h : q ≠ r) (v : Byte) : (s.setReg r v).reg q = s.reg q := by
  rw [State.reg_setReg, if_neg h]

theorem pairHi_ne_pairLo (p : Pair) : pairHi p ≠ pairLo p := by
  cases p <;> decide

theorem State.pair_toNat (s : State) (p : Pair) :
    (s.pair p).toNat = 256 * (s.reg (pairHi p)).toNat + (s.reg (pairLo p)).toNat :=
  wordOf_toNat _ _

@[simp] theorem State.setPair_reg_pairHi (s : State) (p : Pair) (v : Word) :
    (s.setPair p v).reg (pairHi p) = hiByte v := by
  rw [State.setPair, State.reg_setReg_ne _ (pairHi_ne_pairLo p), State.reg_setReg_same]

@[simp] theorem State.setPair_reg_pairLo (s : State) (p : Pair) (v : Word) :
    (s.setPair p v).reg (pairLo p) = loByte v := by
  rw [State.setPair, State.reg_setReg_same]

/-- Writing a pair writes its two halves alone. -/
theorem State.setPair_reg_ne (s : State) {p : Pair} (v : Word) {r : Reg8} (hHi : r ≠ pairHi p) (hLo : r ≠ pairLo p) :
    (s.setPair p v).reg r = s.reg r := by
  rw [State.setPair, State.reg_setReg_ne _ hLo, State.reg_setReg_ne _ hHi]

/-- A write of the high half is seen by the next read of the pair. -/
theorem State.pair_setReg_pairHi (s : State) (p : Pair) (b : Byte) :
    (s.setReg (pairHi p) b).pair p = wordOf b (s.reg (pairLo p)) := by
  rw [State.pair, State.reg_setReg_same, State.reg_setReg_ne _ (pairHi_ne_pairLo p).symm]

/-- A write of the low half is seen by the next read of the pair. -/
theorem State.pair_setReg_pairLo (s : State) (p : Pair) (b : Byte) :
    (s.setReg (pairLo p) b).pair p = wordOf (s.reg (pairHi p)) b := by
  rw [State.pair, State.reg_setReg_same, State.reg_setReg_ne _ (pairHi_ne_pairLo p)]

theorem hiByte_eq_ofNat (w : Word) : hiByte w = BitVec.ofNat 8 (w.toNat / 256) := by
  rw [← hiByte_toNat, BitVec.ofNat_toNat, BitVec.setWidth_eq]

theorem loByte_eq_ofNat (w : Word) : loByte w = BitVec.ofNat 8 (w.toNat % 256) := by
  rw [← loByte_toNat, BitVec.ofNat_toNat, BitVec.setWidth_eq]

/-- Settles O25: a pair is `wordOf` of its halves, which are different registers, so each clause is a read of a register
after a write of the same or of another one. -/
theorem pairsAreViewsOfTheRegisters : Obligations.PairsAreViewsOfTheRegisters := by
  refine ⟨fun _ => ⟨rfl, rfl, rfl⟩, ?threePairs, fun _ => rfl, State.pair_toNat, ?writtenPair,
    fun s _ v _ hHi hLo => s.setPair_reg_ne v hHi hLo, ?writtenHalf⟩
  case threePairs =>
    intro p
    cases p <;> simp
  case writtenPair =>
    intro s p v
    exact ⟨s.pair_setPair_same p v, (s.setPair_reg_pairHi p v).trans (hiByte_eq_ofNat v),
      (s.setPair_reg_pairLo p v).trans (loByte_eq_ofNat v)⟩
  case writtenHalf =>
    intro s p b
    rw [State.pair_setReg_pairHi, State.pair_setReg_pairLo, wordOf_toNat, wordOf_toNat]
    exact ⟨rfl, rfl⟩

end Sys2Proof.Machine
end

section
/-! SUPPORT. The packed flags byte, bit by bit (10_state.md R27), and what settles O26. -/

namespace Sys2Proof.Machine

/-- Bits 7 to 4 are Z, N, H and C, and no other bit is set. -/
theorem Flags.getLsbD_pack (f : Flags) (k : Fin 8) :
    f.pack.getLsbD k.val =
      ((f.fZ && decide (k = 7)) || (f.fN && decide (k = 6)) || (f.fH && decide (k = 5)) || (f.fC && decide (k = 4))) := by
  obtain ⟨z, n, h, c⟩ := f
  revert z n h c k
  decide

theorem Flags.getLsbD_pack_fields (f : Flags) :
    f.pack.getLsbD 7 = f.fZ ∧ f.pack.getLsbD 6 = f.fN ∧ f.pack.getLsbD 5 = f.fH ∧ f.pack.getLsbD 4 = f.fC := by
  refine ⟨(f.getLsbD_pack 7).trans ?_, (f.getLsbD_pack 6).trans ?_, (f.getLsbD_pack 5).trans ?_,
    (f.getLsbD_pack 4).trans ?_⟩ <;> simp

theorem Flags.getLsbD_pack_of_lt_four (f : Flags) {k : Nat} (hk : k < 4) : f.pack.getLsbD k = false := by
  refine (f.getLsbD_pack ⟨k, by omega⟩).trans ?_
  have hne : k ≠ 7 ∧ k ≠ 6 ∧ k ≠ 5 ∧ k ≠ 4 := by omega
  simp [Fin.ext_iff, hne]

@[simp] theorem Flags.unpack_pack (f : Flags) : Flags.unpack f.pack = f := by
  obtain ⟨hZ, hN, hH, hC⟩ := f.getLsbD_pack_fields
  rw [Flags.unpack, hZ, hN, hH, hC]

/-- A bit of the high nibble survives unpacking; one of the low nibble is discarded, as the mask does. -/
theorem Flags.pack_unpack (b : Byte) : (Flags.unpack b).pack = b &&& 0xF0 := by
  apply BitVec.eq_of_getLsbD_eq
  intro k hk
  obtain ⟨hZ, hN, hH, hC⟩ := (Flags.unpack b).getLsbD_pack_fields
  rw [BitVec.getLsbD_and]
  obtain hlow | rfl | rfl | rfl | rfl : k < 4 ∨ k = 7 ∨ k = 6 ∨ k = 5 ∨ k = 4 := by omega
  · have hmask : (0xF0 : Byte).getLsbD k = false := by
      interval_cases k <;> rfl
    rw [Flags.getLsbD_pack_of_lt_four _ hlow, hmask, Bool.and_false]
  · exact hZ.trans (Bool.and_true _).symm
  · exact hN.trans (Bool.and_true _).symm
  · exact hH.trans (Bool.and_true _).symm
  · exact hC.trans (Bool.and_true _).symm

/-- Settles O26, from the bits of the packed byte. -/
theorem flagsPackAndUnpack : Obligations.FlagsPackAndUnpack := by
  refine ⟨fun f => ?_, Flags.unpack_pack, Flags.pack_unpack⟩
  obtain ⟨hZ, hN, hH, hC⟩ := f.getLsbD_pack_fields
  exact ⟨hZ, hN, hH, hC, fun _ => f.getLsbD_pack_of_lt_four⟩

end Sys2Proof.Machine
end

section
/-! SUPPORT. The increments and decrements as arithmetic of words, their half-carry as the low part of the operand
(40_alu.md R131, R133, R134), and what settles O18. -/

namespace Sys2Proof.Machine

theorem ofNat_toNat_add_one {w : Nat} (v : BitVec w) : BitVec.ofNat w (v.toNat + 1) = v + 1 := by
  rw [BitVec.ofNat_add, BitVec.ofNat_toNat, BitVec.setWidth_eq]
  rfl

theorem ofInt_toNat_sub_one {w : Nat} (v : BitVec w) : BitVec.ofInt w ((v.toNat : Int) - 1) = v - 1 := by
  rw [Int.sub_eq_add_neg, BitVec.ofInt_add, BitVec.ofInt_natCast, BitVec.ofNat_toNat, BitVec.setWidth_eq, BitVec.ofInt_neg,
    ← BitVec.sub_eq_add_neg]
  rfl

/-- An increment wraps to 0 from the largest word alone. -/
theorem add_one_beq_zero {w : Nat} (v : BitVec w) : (v + 1 == 0) = (v == -1) := by
  rw [Bool.beq_eq_decide_eq, Bool.beq_eq_decide_eq, decide_eq_decide]
  exact add_eq_zero_iff_eq_neg

theorem sub_one_beq_zero {w : Nat} (v : BitVec w) : (v - 1 == 0) = (v == 1) := by
  rw [Bool.beq_eq_decide_eq, Bool.beq_eq_decide_eq, decide_eq_decide]
  exact sub_eq_zero

/-- Adding 1 carries out of the low `k` bits when they are all set. -/
theorem lowBits_add_one_beq (n k : Nat) : ((n &&& 2 ^ k - 1) + 1 == 2 ^ k) = (n % 2 ^ k == 2 ^ k - 1) := by
  have hpos : 0 < 2 ^ k := Nat.two_pow_pos k
  rw [Nat.and_two_pow_sub_one_eq_mod, Bool.eq_iff_iff, beq_iff_eq, beq_iff_eq]
  omega

theorem Alu.incByte_eq (f : Flags) (v : Byte) :
    Alu.incByte f v = (v + 1, ⟨v == 0xFF, false, v.toNat % 16 == 15, f.fC⟩) := by
  have hZ : (v + 1 == 0) = (v == 0xFF) := add_one_beq_zero v
  have hH : ((v.toNat &&& 0xF) + 1 == 0x10) = (v.toNat % 16 == 15) := lowBits_add_one_beq v.toNat 4
  simp only [Alu.incByte, ofNat_toNat_add_one, hZ, hH]

theorem Alu.incWord_eq (f : Flags) (v : Word) :
    Alu.incWord f v = (v + 1, ⟨v == 0xFFFF, false, v.toNat % 4096 == 4095, f.fC⟩) := by
  have hZ : (v + 1 == 0) = (v == 0xFFFF) := add_one_beq_zero v
  have hH : ((v.toNat &&& 0xFFF) + 1 == 0x1000) = (v.toNat % 4096 == 4095) := lowBits_add_one_beq v.toNat 12
  simp only [Alu.incWord, ofNat_toNat_add_one, hZ, hH]

theorem Alu.decWord_eq (f : Flags) (v : Word) :
    Alu.decWord f v = (v - 1, ⟨v == 1, true, v.toNat % 4096 == 0, f.fC⟩) := by
  have hH : v.toNat &&& 0xFFF = v.toNat % 4096 := Nat.and_two_pow_sub_one_eq_mod v.toNat 12
  simp only [Alu.decWord, ofInt_toNat_sub_one, sub_one_beq_zero, hH]

/-- Settles O18: each primitive is its equation. -/
theorem incrementPrimitives : Obligations.IncrementPrimitives :=
  ⟨Alu.incByte_eq, Alu.incWord_eq, Alu.decWord_eq⟩

end Sys2Proof.Machine
end

section
/-! SUPPORT. The bits of a byte shifted by one place with a given bit in the vacated place, the rotates with carry as such shifts
(40_alu.md R145, R146), and what settles O21. -/

namespace Sys2Proof.Machine

/-- A flag placed at bit `j` is that bit alone. -/
theorem getLsbD_ofNat_bitNat_mul (b : Bool) (j : Nat) {k : Nat} (hk : k < 8) :
    (BitVec.ofNat 8 (bitNat b * 2 ^ j)).getLsbD k = (b && decide (j = k)) := by
  rw [BitVec.getLsbD_ofNat, decide_eq_true hk, Bool.true_and]
  cases b with
  | false => simp [bitNat]
  | true => rw [bitNat, if_pos rfl, Nat.one_mul, Nat.testBit_two_pow, Bool.true_and]

/-- A shift to the left with `b` in the vacated bit. -/
theorem getLsbD_shiftLeft_or_bitNat (v : Byte) (b : Bool) {k : Nat} (hk : k < 8) :
    ((v <<< 1) ||| BitVec.ofNat 8 (bitNat b)).getLsbD k = if k = 0 then b else v.getLsbD (k - 1) := by
  have hb : (BitVec.ofNat 8 (bitNat b)).getLsbD k = (b && decide (0 = k)) := by
    simpa using getLsbD_ofNat_bitNat_mul b 0 hk
  rw [BitVec.getLsbD_or, BitVec.getLsbD_shiftLeft, hb]
  cases k with
  | zero => simp
  | succ k => simp [hk]

/-- A shift to the right with `b` in the vacated bit. -/
theorem getLsbD_ushiftRight_or_bitNat (v : Byte) (b : Bool) {k : Nat} (hk : k < 8) :
    ((v >>> 1) ||| BitVec.ofNat 8 (bitNat b * 128)).getLsbD k = if k = 7 then b else v.getLsbD (k + 1) := by
  have hb : (BitVec.ofNat 8 (bitNat b * 128)).getLsbD k = (b && decide (7 = k)) := getLsbD_ofNat_bitNat_mul b 7 hk
  rw [BitVec.getLsbD_or, BitVec.getLsbD_ushiftRight, Nat.add_comm 1 k, hb]
  by_cases h7 : k = 7
  · subst h7
    rw [BitVec.getLsbD_of_ge v 8 (Nat.le_refl 8)]
    simp
  · simp [h7, Ne.symm h7]

theorem Alu.getLsbD_rotateLeftCarry (f : Flags) (v : Byte) {k : Nat} (hk : k < 8) :
    (Alu.rotateLeftCarry f v).1.getLsbD k = v.getLsbD ((k + 7) % 8) := by
  refine (getLsbD_shiftLeft_or_bitNat v (v.getLsbD 7) hk).trans ?_
  split
  case isTrue h0 => rw [h0]
  case isFalse h0 => rw [show (k + 7) % 8 = k - 1 by omega]

theorem Alu.getLsbD_rotateRightCarry (f : Flags) (v : Byte) {k : Nat} (hk : k < 8) :
    (Alu.rotateRightCarry f v).1.getLsbD k = v.getLsbD ((k + 1) % 8) := by
  refine (getLsbD_ushiftRight_or_bitNat v (v.getLsbD 0) hk).trans ?_
  split
  case isTrue h7 => rw [h7]
  case isFalse h7 => rw [Nat.mod_eq_of_lt (by omega : k + 1 < 8)]

theorem Alu.rotateRightCarry_rotateLeftCarry (f g : Flags) (v : Byte) :
    (Alu.rotateRightCarry g (Alu.rotateLeftCarry f v).1).1 = v := by
  apply BitVec.eq_of_getLsbD_eq
  intro k hk
  rw [Alu.getLsbD_rotateRightCarry _ _ hk, Alu.getLsbD_rotateLeftCarry _ _ (Nat.mod_lt _ (by decide)),
    show ((k + 1) % 8 + 7) % 8 = k by omega]

theorem Alu.rotateLeftCarry_rotateRightCarry (f g : Flags) (v : Byte) :
    (Alu.rotateLeftCarry g (Alu.rotateRightCarry f v).1).1 = v := by
  apply BitVec.eq_of_getLsbD_eq
  intro k hk
  rw [Alu.getLsbD_rotateLeftCarry _ _ hk, Alu.getLsbD_rotateRightCarry _ _ (Nat.mod_lt _ (by decide)),
    show ((k + 7) % 8 + 1) % 8 = k by omega]

/-- A map of bytes that keeps 0 and has a left inverse gives 0 from 0 alone: the Zero flag may be read off the operand. -/
theorem beq_zero_of_leftInverse {r l : Byte → Byte} (hinv : ∀ v, l (r v) = v) (hr : r 0 = 0) (v : Byte) :
    (r v == 0) = (v == 0) := by
  rw [Bool.beq_eq_decide_eq, Bool.beq_eq_decide_eq, decide_eq_decide]
  exact (Function.LeftInverse.injective hinv).eq_iff' hr

theorem Alu.rotateLeftCarry_flags (f : Flags) (v : Byte) :
    (Alu.rotateLeftCarry f v).2 = ⟨v == 0, false, false, v.getLsbD 7⟩ := by
  have hZ : ((Alu.rotateLeftCarry f v).1 == 0) = (v == 0) :=
    beq_zero_of_leftInverse (r := fun v => (Alu.rotateLeftCarry f v).1) (l := fun v => (Alu.rotateRightCarry f v).1)
      (Alu.rotateRightCarry_rotateLeftCarry f f) rfl v
  rw [← hZ]
  rfl

theorem Alu.rotateRightCarry_flags (f : Flags) (v : Byte) :
    (Alu.rotateRightCarry f v).2 = ⟨v == 0, false, false, v.getLsbD 0⟩ := by
  have hZ : ((Alu.rotateRightCarry f v).1 == 0) = (v == 0) :=
    beq_zero_of_leftInverse (r := fun v => (Alu.rotateRightCarry f v).1) (l := fun v => (Alu.rotateLeftCarry f v).1)
      (Alu.rotateLeftCarry_rotateRightCarry f f) rfl v
  rw [← hZ]
  rfl

/-- Settles O21: the bits of each rotate make each the inverse of the other, so each has result 0 from 0 alone. -/
theorem rotateWithCarryPrimitives : Obligations.RotateWithCarryPrimitives :=
  ⟨fun f v => ⟨fun _ => Alu.getLsbD_rotateLeftCarry f v, Alu.rotateLeftCarry_flags f v⟩,
    fun f v => ⟨fun _ => Alu.getLsbD_rotateRightCarry f v, Alu.rotateRightCarry_flags f v⟩,
    Alu.rotateRightCarry_rotateLeftCarry⟩

end Sys2Proof.Machine
end

section
/-! SUPPORT. The complement and the bit operations, bit by bit (40_alu.md R153, R155, R156), and what settles O23. -/

namespace Sys2Proof.Machine

theorem Alu.getLsbD_complement (f : Flags) (v : Byte) {k : Nat} (hk : k < 8) :
    (Alu.complement f v).1.getLsbD k = !v.getLsbD k := by
  have hnot : (Alu.complement f v).1 = ~~~v := BitVec.xor_allOnes
  rw [hnot, BitVec.getLsbD_not, decide_eq_true hk, Bool.true_and]

/-- The mask of `setBit` and `resetBit` is the named bit alone. -/
theorem getLsbD_one_shiftLeft (b : Fin 8) (k : Nat) : (1#8 <<< b.val).getLsbD k = decide (k = b.val) := by
  rw [← BitVec.twoPow_eq, BitVec.getLsbD_twoPow, decide_eq_true b.isLt, Bool.true_and, decide_eq_decide]
  exact eq_comm

theorem Alu.getLsbD_setBit (b : Fin 8) (v : Byte) (k : Nat) :
    (Alu.setBit b v).getLsbD k = (v.getLsbD k || decide (k = b.val)) := by
  rw [Alu.setBit, BitVec.getLsbD_or, getLsbD_one_shiftLeft]

/-- From bit 8 up both sides are clear. -/
theorem Alu.getLsbD_resetBit (b : Fin 8) (v : Byte) (k : Nat) :
    (Alu.resetBit b v).getLsbD k = (v.getLsbD k && decide (k ≠ b.val)) := by
  rw [Alu.resetBit, BitVec.getLsbD_and, BitVec.getLsbD_not, getLsbD_one_shiftLeft, decide_not]
  by_cases hk : k < 8
  · rw [decide_eq_true hk, Bool.true_and]
  · rw [BitVec.getLsbD_of_ge v k (Nat.le_of_not_lt hk), Bool.false_and, Bool.false_and]

/-- Settles O23: the results bit by bit; the flags are the definitions' own. -/
theorem bitAndCarryPrimitives : Obligations.BitAndCarryPrimitives :=
  ⟨fun f v => ⟨fun _ => Alu.getLsbD_complement f v, rfl⟩, fun _ _ _ => rfl, Alu.getLsbD_setBit, Alu.getLsbD_resetBit,
    fun _ => rfl, fun _ => rfl⟩

end Sys2Proof.Machine
end

section
/-! SUPPORT. What becomes of the boot overlay in a fetch, an instruction and a step (60_exceptions.md R501), and what settles O8. -/

namespace Sys2Proof.Machine

/-- Where the operand fetch raises, only `pc` has moved (30_encoding.md R116). -/
theorem fetchOperands_error {op : Byte} {t u : State} {e : ErrorKind} (h : fetchOperands op t = .error e u) :
    ∃ a, u = t.setPc a := by
  rw [fetchOperands_eq] at h
  cases hrow : primaryRow op <;> simp only [hrow] at h
  case bare => cases h
  case imm16 =>
    split at h
    case isTrue =>
      cases h
      exact ⟨t.pc, rfl⟩
    case isFalse =>
      split at h <;> cases h
      exact ⟨t.pc + 1, rfl⟩
  case imm8 | ext =>
    split at h <;> cases h
    exact ⟨t.pc, rfl⟩

/-- A failing fetch is the recovery from an error in a state with the overlay as the test of R501 leaves it. -/
theorem fetchInstr_error_bootOverlay {s t : State} (h : fetchInstr s = .error t) :
    t.bootOverlay = (leaveBoot s).bootOverlay := by
  rw [fetchInstr_eq] at h
  split at h
  case isTrue => cases h; rfl
  case isFalse =>
    cases hf : fetchOperands ((leaveBoot s).peek s.pc) (opcodeFetched s) with
    | ok i u => rw [hf] at h; cases h
    | error e u =>
      rw [hf] at h
      cases h
      obtain ⟨a, rfl⟩ := fetchOperands_error hf
      rfl

theorem fetchInstr_ok_bootOverlay {s u : State} {i : Instr} (h : fetchInstr s = .ok (i, u)) :
    u.bootOverlay = (leaveBoot s).bootOverlay := by
  obtain ⟨-, -, -, rfl⟩ := fetchInstr_ok h
  rfl

/-- A step sees its state through the overlay test alone. -/
theorem step_congr_leaveBoot {s t : State} (hs : s.running = true) (ht : t.running = true)
    (h : leaveBoot s = leaveBoot t) : step s = step t := by
  have hf : fetchInstr s = fetchInstr t := by simp only [fetchInstr, h]
  rw [step_of_running hs, step_of_running ht, hf]

theorem leaveBoot_of_pc {s : State} (h : s.pc = 0x0100) : leaveBoot s = { s with bootOverlay := false } := if_pos h

theorem leaveBoot_removeOverlay {s : State} (h : s.pc = 0x0100) :
    leaveBoot s = leaveBoot { s with bootOverlay := false } :=
  (leaveBoot_of_pc h).trans (leaveBoot_of_pc (s := { s with bootOverlay := false }) h).symm

end Sys2Proof.Machine

namespace Sys2Proof

open Sys2Proof.Machine

/-- Executing an instruction answers a next state, whether its effect answers or raises. -/
theorem Meaning.exec_next {i : Instr} {eff : Exec Charge} (m : Meaning i eff) (s : State) : ∃ t, exec i s = .next t := by
  cases he : eff s with
  | ok ch u =>
    obtain ⟨t, ht, -⟩ := m.completes he
    exact ⟨t, ht⟩
  | error e u => exact ⟨_, m.raises he⟩

theorem exec_next (i : Instr) (s : State) : ∃ t, exec i s = .next t := by
  rcases i.wellFormed_or with hw | rfl
  · obtain ⟨eff, m⟩ := i.form hw
    exact m.exec_next s
  · rw [exec_prefix_CB]
    split
    · exact ⟨_, rfl⟩
    · exact (extendedForm_meaning _).exec_next _

/-- No instruction writes the overlay bit. -/
theorem exec_bootOverlay {i : Instr} {s t : State} (h : exec i s = .next t) : t.bootOverlay = s.bootOverlay := by
  rcases exec_ends h with ⟨j, eff, u, m, hends, hu⟩ | ⟨-, rfl⟩
  · obtain ⟨heff, -⟩ := m.after_frame u
    have hus : u.bootOverlay = s.bootOverlay := by
      rcases hu with ⟨-, rfl⟩ | ⟨-, -, rfl⟩ <;> rfl
    exact hends.bootOverlay.trans (heff.trans hus)
  · rfl

/-- A step ends, executed or failing in its fetch, with the overlay as the test at its start leaves it. -/
theorem step_bootOverlay {s : State} (h : s.running = true) :
    ∃ t, step s = .next t ∧ t.bootOverlay = (leaveBoot s).bootOverlay := by
  rw [step_of_running h]
  cases hf : fetchInstr s with
  | error t => exact ⟨t, rfl, fetchInstr_error_bootOverlay hf⟩
  | ok iu =>
    obtain ⟨i, u⟩ := iu
    obtain ⟨t, ht⟩ := exec_next i u
    exact ⟨t, ht, (exec_bootOverlay ht).trans (fetchInstr_ok_bootOverlay hf)⟩

theorem leaveBoot_bootOverlay_eq_and (s : State) :
    (leaveBoot s).bootOverlay = (s.bootOverlay && decide (s.pc ≠ 0x0100)) := by
  rw [leaveBoot_bootOverlay]
  split <;> simp [*]

/-- Settles O8: the test at the start of a step decides the overlay bit, no later part of the step writes it, and the step goes on
from the tested state alone. -/
theorem overlayLeavesAtPc0100 : Obligations.OverlayLeavesAtPc0100 := by
  refine ⟨fun s hrun => ?_, fun s hrun hpc => ?_, fun i s t => exec_bootOverlay⟩
  · rw [← leaveBoot_bootOverlay_eq_and]
    exact step_bootOverlay hrun
  · exact step_congr_leaveBoot hrun hrun (leaveBoot_removeOverlay hpc)

end Sys2Proof
end

section
/-! SUPPORT. The decoder against the encoder (30_encoding.md R100, R107, R115): every instruction stands in its row of the tables, every
row gives instructions of one length; and what settles O1, O2 and O3. -/

namespace Sys2Proof

open Sys2Proof.Machine

section
open Laws.TableRow

/-- Every instruction stands in the row of the tables that its own bytes select, row by row as the family `Laws.TableRow` has it. -/
theorem tableRow_statement : ∀ i : Instr, Laws.TableRow.Statement i
  | .nop => nop | .ld_BC_nn nn => ld_BC_nn nn | .ld_mBC_A => ld_mBC_A | .inc_BC => inc_BC | .inc_B => inc_B
  | .dec_B => dec_B | .ld_B_n n => ld_B_n n | .rlca => rlca | .ld_mNN_SP nn => ld_mNN_SP nn | .add_HL_BC => add_HL_BC
  | .ld_A_mBC => ld_A_mBC | .dec_BC => dec_BC | .inc_C => inc_C | .dec_C => dec_C | .ld_C_n n => ld_C_n n
  | .rrca => rrca | .stop => stop | .ld_DE_nn nn => ld_DE_nn nn | .ld_mDE_A => ld_mDE_A | .inc_DE => inc_DE
  | .inc_D => inc_D | .dec_D => dec_D | .ld_D_n n => ld_D_n n | .rla => rla | .jr_e e => jr_e e
  | .add_HL_DE => add_HL_DE | .ld_A_mDE => ld_A_mDE | .dec_DE => dec_DE | .inc_E => inc_E | .dec_E => dec_E
  | .ld_E_n n => ld_E_n n | .rra => rra | .jr_NZ_e e => jr_NZ_e e | .ld_HL_nn nn => ld_HL_nn nn
  | .ld_mHLI_A => ld_mHLI_A | .inc_HL => inc_HL | .inc_H => inc_H | .dec_H => dec_H | .ld_H_n n => ld_H_n n
  | .daa => daa | .jr_Z_e e => jr_Z_e e | .add_HL_HL => add_HL_HL | .ld_A_mHLI => ld_A_mHLI | .dec_HL => dec_HL
  | .inc_L => inc_L | .dec_L => dec_L | .ld_L_n n => ld_L_n n | .cpl => cpl | .jr_NC_e e => jr_NC_e e
  | .ld_SP_nn nn => ld_SP_nn nn | .ld_mHLD_A => ld_mHLD_A | .inc_SP => inc_SP | .inc_mHL => inc_mHL
  | .dec_mHL => dec_mHL | .ld_mHL_n n => ld_mHL_n n | .scf => scf | .jr_C_e e => jr_C_e e | .add_HL_SP => add_HL_SP
  | .ld_A_mHLD => ld_A_mHLD | .dec_SP => dec_SP | .inc_A => inc_A | .dec_A => dec_A | .ld_A_n n => ld_A_n n
  | .ccf => ccf | .ld_B_B => ld_B_B | .ld_B_C => ld_B_C | .ld_B_D => ld_B_D | .ld_B_E => ld_B_E | .ld_B_H => ld_B_H
  | .ld_B_L => ld_B_L | .ld_B_mHL => ld_B_mHL | .ld_B_A => ld_B_A | .ld_C_B => ld_C_B | .ld_C_C => ld_C_C
  | .ld_C_D => ld_C_D | .ld_C_E => ld_C_E | .ld_C_H => ld_C_H | .ld_C_L => ld_C_L | .ld_C_mHL => ld_C_mHL
  | .ld_C_A => ld_C_A | .ld_D_B => ld_D_B | .ld_D_C => ld_D_C | .ld_D_D => ld_D_D | .ld_D_E => ld_D_E
  | .ld_D_H => ld_D_H | .ld_D_L => ld_D_L | .ld_D_mHL => ld_D_mHL | .ld_D_A => ld_D_A | .ld_E_B => ld_E_B
  | .ld_E_C => ld_E_C | .ld_E_D => ld_E_D | .ld_E_E => ld_E_E | .ld_E_H => ld_E_H | .ld_E_L => ld_E_L
  | .ld_E_mHL => ld_E_mHL | .ld_E_A => ld_E_A | .ld_H_B => ld_H_B | .ld_H_C => ld_H_C | .ld_H_D => ld_H_D
  | .ld_H_E => ld_H_E | .ld_H_H => ld_H_H | .ld_H_L => ld_H_L | .ld_H_mHL => ld_H_mHL | .ld_H_A => ld_H_A
  | .ld_L_B => ld_L_B | .ld_L_C => ld_L_C | .ld_L_D => ld_L_D | .ld_L_E => ld_L_E | .ld_L_H => ld_L_H
  | .ld_L_L => ld_L_L | .ld_L_mHL => ld_L_mHL | .ld_L_A => ld_L_A | .ld_mHL_B => ld_mHL_B | .ld_mHL_C => ld_mHL_C
  | .ld_mHL_D => ld_mHL_D | .ld_mHL_E => ld_mHL_E | .ld_mHL_H => ld_mHL_H | .ld_mHL_L => ld_mHL_L | .halt => halt
  | .ld_mHL_A => ld_mHL_A | .ld_A_B => ld_A_B | .ld_A_C => ld_A_C | .ld_A_D => ld_A_D | .ld_A_E => ld_A_E
  | .ld_A_H => ld_A_H | .ld_A_L => ld_A_L | .ld_A_mHL => ld_A_mHL | .ld_A_A => ld_A_A | .add_A_B => add_A_B
  | .add_A_C => add_A_C | .add_A_D => add_A_D | .add_A_E => add_A_E | .add_A_H => add_A_H | .add_A_L => add_A_L
  | .add_A_mHL => add_A_mHL | .add_A_A => add_A_A | .adc_A_B => adc_A_B | .adc_A_C => adc_A_C | .adc_A_D => adc_A_D
  | .adc_A_E => adc_A_E | .adc_A_H => adc_A_H | .adc_A_L => adc_A_L | .adc_A_mHL => adc_A_mHL | .adc_A_A => adc_A_A
  | .sub_A_B => sub_A_B | .sub_A_C => sub_A_C | .sub_A_D => sub_A_D | .sub_A_E => sub_A_E | .sub_A_H => sub_A_H
  | .sub_A_L => sub_A_L | .sub_A_mHL => sub_A_mHL | .sub_A_A => sub_A_A | .sbc_A_B => sbc_A_B | .sbc_A_C => sbc_A_C
  | .sbc_A_D => sbc_A_D | .sbc_A_E => sbc_A_E | .sbc_A_H => sbc_A_H | .sbc_A_L => sbc_A_L | .sbc_A_mHL => sbc_A_mHL
  | .sbc_A_A => sbc_A_A | .and_A_B => and_A_B | .and_A_C => and_A_C | .and_A_D => and_A_D | .and_A_E => and_A_E
  | .and_A_H => and_A_H | .and_A_L => and_A_L | .and_A_mHL => and_A_mHL | .and_A_A => and_A_A | .xor_A_B => xor_A_B
  | .xor_A_C => xor_A_C | .xor_A_D => xor_A_D | .xor_A_E => xor_A_E | .xor_A_H => xor_A_H | .xor_A_L => xor_A_L
  | .xor_A_mHL => xor_A_mHL | .xor_A_A => xor_A_A | .or_A_B => or_A_B | .or_A_C => or_A_C | .or_A_D => or_A_D
  | .or_A_E => or_A_E | .or_A_H => or_A_H | .or_A_L => or_A_L | .or_A_mHL => or_A_mHL | .or_A_A => or_A_A
  | .cp_A_B => cp_A_B | .cp_A_C => cp_A_C | .cp_A_D => cp_A_D | .cp_A_E => cp_A_E | .cp_A_H => cp_A_H
  | .cp_A_L => cp_A_L | .cp_A_mHL => cp_A_mHL | .cp_A_A => cp_A_A | .ret_NZ => ret_NZ | .pop_BC => pop_BC
  | .jp_NZ_nn nn => jp_NZ_nn nn | .jp_nn nn => jp_nn nn | .call_NZ_nn nn => call_NZ_nn nn | .push_BC => push_BC
  | .add_A_n n => add_A_n n | .rst_00H => rst_00H | .ret_Z => ret_Z | .ret => ret | .jp_Z_nn nn => jp_Z_nn nn
  | .prefix_CB => prefix_CB | .call_Z_nn nn => call_Z_nn nn | .call_nn nn => call_nn nn | .adc_A_n n => adc_A_n n
  | .rst_08H => rst_08H | .ret_NC => ret_NC | .pop_DE => pop_DE | .jp_NC_nn nn => jp_NC_nn nn
  | .illegal_D3 => illegal_D3 | .call_NC_nn nn => call_NC_nn nn | .push_DE => push_DE | .sub_A_n n => sub_A_n n
  | .rst_10H => rst_10H | .ret_C => ret_C | .reti => reti | .jp_C_nn nn => jp_C_nn nn | .illegal_DB => illegal_DB
  | .call_C_nn nn => call_C_nn nn | .illegal_DD => illegal_DD | .sbc_A_n n => sbc_A_n n | .rst_18H => rst_18H
  | .ldh_mN_A n => ldh_mN_A n | .pop_HL => pop_HL | .ld_mC_A => ld_mC_A | .illegal_E3 => illegal_E3
  | .illegal_E4 => illegal_E4 | .push_HL => push_HL | .and_A_n n => and_A_n n | .rst_20H => rst_20H
  | .add_SP_e e => add_SP_e e | .jp_mHL => jp_mHL | .ld_mNN_A nn => ld_mNN_A nn | .illegal_EB => illegal_EB
  | .illegal_EC => illegal_EC | .illegal_ED => illegal_ED | .xor_A_n n => xor_A_n n | .rst_28H => rst_28H
  | .ldh_A_mN n => ldh_A_mN n | .pop_AF => pop_AF | .illegal_F2 => illegal_F2 | .di => di | .illegal_F4 => illegal_F4
  | .push_AF => push_AF | .or_A_n n => or_A_n n | .rst_30H => rst_30H | .ld_HL_SPe e => ld_HL_SPe e
  | .ld_SP_HL => ld_SP_HL | .ld_A_mNN nn => ld_A_mNN nn | .ei => ei | .illegal_FC => illegal_FC
  | .illegal_FD => illegal_FD | .cp_A_n n => cp_A_n n | .rst_38H => rst_38H | .rlc_B => rlc_B | .rlc_C => rlc_C
  | .rlc_D => rlc_D | .rlc_E => rlc_E | .rlc_H => rlc_H | .rlc_L => rlc_L | .rlc_mHL => rlc_mHL | .rlc_A => rlc_A
  | .rrc_B => rrc_B | .rrc_C => rrc_C | .rrc_D => rrc_D | .rrc_E => rrc_E | .rrc_H => rrc_H | .rrc_L => rrc_L
  | .rrc_mHL => rrc_mHL | .rrc_A => rrc_A | .rl_B => rl_B | .rl_C => rl_C | .rl_D => rl_D | .rl_E => rl_E
  | .rl_H => rl_H | .rl_L => rl_L | .rl_mHL => rl_mHL | .rl_A => rl_A | .rr_B => rr_B | .rr_C => rr_C | .rr_D => rr_D
  | .rr_E => rr_E | .rr_H => rr_H | .rr_L => rr_L | .rr_mHL => rr_mHL | .rr_A => rr_A | .sla_B => sla_B
  | .sla_C => sla_C | .sla_D => sla_D | .sla_E => sla_E | .sla_H => sla_H | .sla_L => sla_L | .sla_mHL => sla_mHL
  | .sla_A => sla_A | .sra_B => sra_B | .sra_C => sra_C | .sra_D => sra_D | .sra_E => sra_E | .sra_H => sra_H
  | .sra_L => sra_L | .sra_mHL => sra_mHL | .sra_A => sra_A | .swap_B => swap_B | .swap_C => swap_C
  | .swap_D => swap_D | .swap_E => swap_E | .swap_H => swap_H | .swap_L => swap_L | .swap_mHL => swap_mHL
  | .swap_A => swap_A | .srl_B => srl_B | .srl_C => srl_C | .srl_D => srl_D | .srl_E => srl_E | .srl_H => srl_H
  | .srl_L => srl_L | .srl_mHL => srl_mHL | .srl_A => srl_A | .bit_0_B => bit_0_B | .bit_0_C => bit_0_C
  | .bit_0_D => bit_0_D | .bit_0_E => bit_0_E | .bit_0_H => bit_0_H | .bit_0_L => bit_0_L | .bit_0_mHL => bit_0_mHL
  | .bit_0_A => bit_0_A | .bit_1_B => bit_1_B | .bit_1_C => bit_1_C | .bit_1_D => bit_1_D | .bit_1_E => bit_1_E
  | .bit_1_H => bit_1_H | .bit_1_L => bit_1_L | .bit_1_mHL => bit_1_mHL | .bit_1_A => bit_1_A | .bit_2_B => bit_2_B
  | .bit_2_C => bit_2_C | .bit_2_D => bit_2_D | .bit_2_E => bit_2_E | .bit_2_H => bit_2_H | .bit_2_L => bit_2_L
  | .bit_2_mHL => bit_2_mHL | .bit_2_A => bit_2_A | .bit_3_B => bit_3_B | .bit_3_C => bit_3_C | .bit_3_D => bit_3_D
  | .bit_3_E => bit_3_E | .bit_3_H => bit_3_H | .bit_3_L => bit_3_L | .bit_3_mHL => bit_3_mHL | .bit_3_A => bit_3_A
  | .bit_4_B => bit_4_B | .bit_4_C => bit_4_C | .bit_4_D => bit_4_D | .bit_4_E => bit_4_E | .bit_4_H => bit_4_H
  | .bit_4_L => bit_4_L | .bit_4_mHL => bit_4_mHL | .bit_4_A => bit_4_A | .bit_5_B => bit_5_B | .bit_5_C => bit_5_C
  | .bit_5_D => bit_5_D | .bit_5_E => bit_5_E | .bit_5_H => bit_5_H | .bit_5_L => bit_5_L | .bit_5_mHL => bit_5_mHL
  | .bit_5_A => bit_5_A | .bit_6_B => bit_6_B | .bit_6_C => bit_6_C | .bit_6_D => bit_6_D | .bit_6_E => bit_6_E
  | .bit_6_H => bit_6_H | .bit_6_L => bit_6_L | .bit_6_mHL => bit_6_mHL | .bit_6_A => bit_6_A | .bit_7_B => bit_7_B
  | .bit_7_C => bit_7_C | .bit_7_D => bit_7_D | .bit_7_E => bit_7_E | .bit_7_H => bit_7_H | .bit_7_L => bit_7_L
  | .bit_7_mHL => bit_7_mHL | .bit_7_A => bit_7_A | .res_0_B => res_0_B | .res_0_C => res_0_C | .res_0_D => res_0_D
  | .res_0_E => res_0_E | .res_0_H => res_0_H | .res_0_L => res_0_L | .res_0_mHL => res_0_mHL | .res_0_A => res_0_A
  | .res_1_B => res_1_B | .res_1_C => res_1_C | .res_1_D => res_1_D | .res_1_E => res_1_E | .res_1_H => res_1_H
  | .res_1_L => res_1_L | .res_1_mHL => res_1_mHL | .res_1_A => res_1_A | .res_2_B => res_2_B | .res_2_C => res_2_C
  | .res_2_D => res_2_D | .res_2_E => res_2_E | .res_2_H => res_2_H | .res_2_L => res_2_L | .res_2_mHL => res_2_mHL
  | .res_2_A => res_2_A | .res_3_B => res_3_B | .res_3_C => res_3_C | .res_3_D => res_3_D | .res_3_E => res_3_E
  | .res_3_H => res_3_H | .res_3_L => res_3_L | .res_3_mHL => res_3_mHL | .res_3_A => res_3_A | .res_4_B => res_4_B
  | .res_4_C => res_4_C | .res_4_D => res_4_D | .res_4_E => res_4_E | .res_4_H => res_4_H | .res_4_L => res_4_L
  | .res_4_mHL => res_4_mHL | .res_4_A => res_4_A | .res_5_B => res_5_B | .res_5_C => res_5_C | .res_5_D => res_5_D
  | .res_5_E => res_5_E | .res_5_H => res_5_H | .res_5_L => res_5_L | .res_5_mHL => res_5_mHL | .res_5_A => res_5_A
  | .res_6_B => res_6_B | .res_6_C => res_6_C | .res_6_D => res_6_D | .res_6_E => res_6_E | .res_6_H => res_6_H
  | .res_6_L => res_6_L | .res_6_mHL => res_6_mHL | .res_6_A => res_6_A | .res_7_B => res_7_B | .res_7_C => res_7_C
  | .res_7_D => res_7_D | .res_7_E => res_7_E | .res_7_H => res_7_H | .res_7_L => res_7_L | .res_7_mHL => res_7_mHL
  | .res_7_A => res_7_A | .set_0_B => set_0_B | .set_0_C => set_0_C | .set_0_D => set_0_D | .set_0_E => set_0_E
  | .set_0_H => set_0_H | .set_0_L => set_0_L | .set_0_mHL => set_0_mHL | .set_0_A => set_0_A | .set_1_B => set_1_B
  | .set_1_C => set_1_C | .set_1_D => set_1_D | .set_1_E => set_1_E | .set_1_H => set_1_H | .set_1_L => set_1_L
  | .set_1_mHL => set_1_mHL | .set_1_A => set_1_A | .set_2_B => set_2_B | .set_2_C => set_2_C | .set_2_D => set_2_D
  | .set_2_E => set_2_E | .set_2_H => set_2_H | .set_2_L => set_2_L | .set_2_mHL => set_2_mHL | .set_2_A => set_2_A
  | .set_3_B => set_3_B | .set_3_C => set_3_C | .set_3_D => set_3_D | .set_3_E => set_3_E | .set_3_H => set_3_H
  | .set_3_L => set_3_L | .set_3_mHL => set_3_mHL | .set_3_A => set_3_A | .set_4_B => set_4_B | .set_4_C => set_4_C
  | .set_4_D => set_4_D | .set_4_E => set_4_E | .set_4_H => set_4_H | .set_4_L => set_4_L | .set_4_mHL => set_4_mHL
  | .set_4_A => set_4_A | .set_5_B => set_5_B | .set_5_C => set_5_C | .set_5_D => set_5_D | .set_5_E => set_5_E
  | .set_5_H => set_5_H | .set_5_L => set_5_L | .set_5_mHL => set_5_mHL | .set_5_A => set_5_A | .set_6_B => set_6_B
  | .set_6_C => set_6_C | .set_6_D => set_6_D | .set_6_E => set_6_E | .set_6_H => set_6_H | .set_6_L => set_6_L
  | .set_6_mHL => set_6_mHL | .set_6_A => set_6_A | .set_7_B => set_7_B | .set_7_C => set_7_C | .set_7_D => set_7_D
  | .set_7_E => set_7_E | .set_7_H => set_7_H | .set_7_L => set_7_L | .set_7_mHL => set_7_mHL | .set_7_A => set_7_A

end

theorem decode_of_bare {op : Byte} {i : Instr} (h : primaryRow op = .bare i) (rest : List Byte) :
    decode (op :: rest) = .ok (i, rest) := by
  simp only [decode, h]

theorem decode_of_imm8 {op : Byte} {f : Byte → Instr} (h : primaryRow op = .imm8 f) (n : Byte) (rest : List Byte) :
    decode (op :: n :: rest) = .ok (f n, rest) := by
  simp only [decode, h]

theorem decode_of_imm16 {op : Byte} {f : Word → Instr} (h : primaryRow op = .imm16 f) (lo hi : Byte) (rest : List Byte) :
    decode (op :: lo :: hi :: rest) = .ok (f (wordOf hi lo), rest) := by
  simp only [decode, h]

theorem decode_of_ext {op : Byte} (h : primaryRow op = .ext) (sub : Byte) (rest : List Byte) :
    decode (op :: sub :: rest) = .ok (extendedRow sub, rest) := by
  simp only [decode, h]

/-- Settles O1: the row that the encoding's first byte selects gives the instruction back, with the operand its other bytes hold. -/
theorem decodeOfEncodeIsTheInstruction : Obligations.DecodeOfEncodeIsTheInstruction := by
  intro i rest hwf
  rcases tableRow_statement i with ⟨op, henc, hrow⟩ | ⟨op, f, n, henc, hrow, rfl⟩ | ⟨op, f, nn, henc, hrow, rfl⟩ |
    ⟨sub, henc, hrow, rfl⟩ | ⟨rfl, -, -⟩
  · rw [henc]
    exact decode_of_bare hrow rest
  · rw [henc]
    exact decode_of_imm8 hrow n rest
  · rw [henc]
    exact (decode_of_imm16 hrow (loByte nn) (hiByte nn) rest).trans (by rw [wordOf_hiByte_loByte])
  · rw [henc]
    exact decode_of_ext hrow sub rest
  · cases hwf

/-- Settles O2: the bytes that the first byte's row consumes are its instruction's encoding, whichever of the four kinds the row is. -/
theorem encodeOfDecodeIsTheBytes : Obligations.EncodeOfDecodeIsTheBytes := by
  intro bytes rest i h
  unfold decode at h
  split at h
  case h_1 => cases h
  case h_2 op tail =>
    have hspec := primaryRow_spec op
    split at h
    case h_1 hrow =>
      rw [hrow] at hspec
      cases h
      exact ⟨by rw [hspec.1]; rfl, hspec.2⟩
    case h_2 f n _ hrow =>
      rw [hrow] at hspec
      cases h
      exact ⟨by rw [(hspec n).1]; rfl, (hspec n).2⟩
    case h_3 f lo hi _ hrow =>
      rw [hrow] at hspec
      cases h
      obtain ⟨henc, hwf⟩ := hspec (wordOf hi lo)
      exact ⟨by rw [henc, loByte_wordOf, hiByte_wordOf]; rfl, hwf⟩
    case h_4 sub _ hrow =>
      rw [hrow] at hspec
      obtain rfl : op = 0xCB := hspec
      cases h
      obtain ⟨henc, hwf⟩ := extendedRow_spec sub
      exact ⟨by rw [henc]; rfl, hwf⟩
    case h_5 => cases h

theorem PrimaryRow.extra_le_two (row : PrimaryRow) : row.extra ≤ 2 := by
  cases row <;> simp [PrimaryRow.extra]

theorem length_of_bare {op : Byte} {i : Instr} (h : primaryRow op = .bare i) : i.length = 1 := by
  have hspec := primaryRow_spec op
  rw [h] at hspec
  rw [Instr.length, hspec.1]
  rfl

theorem length_of_imm8 {op : Byte} {f : Byte → Instr} (h : primaryRow op = .imm8 f) (n : Byte) : (f n).length = 2 := by
  have hspec := primaryRow_spec op
  rw [h] at hspec
  rw [Instr.length, (hspec n).1]
  rfl

theorem length_of_imm16 {op : Byte} {f : Word → Instr} (h : primaryRow op = .imm16 f) (nn : Word) : (f nn).length = 3 := by
  have hspec := primaryRow_spec op
  rw [h] at hspec
  rw [Instr.length, (hspec nn).1]
  rfl

theorem length_extendedRow (sub : Byte) : (extendedRow sub).length = 2 := by
  rw [Instr.length, (extendedRow_spec sub).1]
  rfl

/-- Where the bytes that a row asks for are there, decoding answers an instruction of the row's length and leaves the rest. -/
theorem decode_of_extra_le {op : Byte} {rest : List Byte} (h : (primaryRow op).extra ≤ rest.length) :
    ∃ i, decode (op :: rest) = .ok (i, rest.drop (primaryRow op).extra) ∧ i.length = 1 + (primaryRow op).extra := by
  match hrow : primaryRow op, rest with
  | .bare i, rest => exact ⟨i, decode_of_bare hrow rest, length_of_bare hrow⟩
  | .imm8 f, n :: rest => exact ⟨f n, decode_of_imm8 hrow n rest, length_of_imm8 hrow n⟩
  | .imm16 f, lo :: hi :: rest => exact ⟨f (wordOf hi lo), decode_of_imm16 hrow lo hi rest, length_of_imm16 hrow _⟩
  | .ext, sub :: rest => exact ⟨extendedRow sub, decode_of_ext hrow sub rest, length_extendedRow sub⟩
  | .imm8 _, [] | .ext, [] | .imm16 _, [] | .imm16 _, [_] => simp [hrow, PrimaryRow.extra] at h

theorem decode_of_lt_extra {op : Byte} {rest : List Byte} (h : rest.length < (primaryRow op).extra) :
    decode (op :: rest) = .error (.truncated op) := by
  match hrow : primaryRow op, rest with
  | .bare _, rest => simp [hrow, PrimaryRow.extra] at h
  | .imm8 _, [] | .ext, [] | .imm16 _, [] | .imm16 _, [_] => simp only [decode, hrow]
  | .imm8 _, _ :: _ | .ext, _ :: _ | .imm16 _, _ :: _ :: _ =>
    simp only [hrow, PrimaryRow.extra, List.length_cons] at h
    omega

/-- Settles O3: the number is that of the opcode byte's row. -/
theorem opcodeDecidesTheLength : Obligations.OpcodeDecidesTheLength :=
  ⟨fun op => (primaryRow op).extra, fun _ => PrimaryRow.extra_le_two _, rfl, by decide,
    fun _ _ => ⟨decode_of_extra_le, decode_of_lt_extra⟩⟩

end Sys2Proof
end

section
/-! SUPPORT. Where the operand codes stand in the bytes (30_encoding.md R103 to R105, R112 to R114), one lemma a form; and what settles O4
and O5. -/

namespace Sys2Proof

open Sys2Proof.Machine

theorem encode_ldRegReg (d r : Reg8) : encode (.ldRegReg d r) = [BitVec.ofNat 8 (0x40 + 8 * d.code + r.code)] := by
  cases d <;> cases r <;> rfl

theorem encode_ldRegImm (d : Reg8) (n : Byte) : encode (.ldRegImm d n) = [BitVec.ofNat 8 (0x06 + 8 * d.code), n] := by
  cases d <;> rfl

theorem encode_ldRegMem (d : Reg8) : encode (.ldRegMem d) = [BitVec.ofNat 8 (0x46 + 8 * d.code)] := by
  cases d <;> rfl

theorem encode_ldMemReg (r : Reg8) : encode (.ldMemReg r) = [BitVec.ofNat 8 (0x70 + r.code)] := by
  cases r <;> rfl

theorem encode_acc_op (op : AccOp) (o : Operand8) :
    encode (.acc op (.op o)) = [BitVec.ofNat 8 (0x80 + 8 * op.code + o.code)] := by
  rcases o with (_ | _) | _ <;> cases op <;> rfl

theorem encode_acc_imm (op : AccOp) (n : Byte) : encode (.acc op (.imm n)) = [BitVec.ofNat 8 (0xC6 + 8 * op.code), n] := by
  cases op <;> rfl

theorem encode_incOp (o : Operand8) : encode (.incOp o) = [BitVec.ofNat 8 (0x04 + 8 * o.code)] := by
  rcases o with (_ | _) | _ <;> rfl

theorem encode_decOp (o : Operand8) : encode (.decOp o) = [BitVec.ofNat 8 (0x05 + 8 * o.code)] := by
  rcases o with (_ | _) | _ <;> rfl

theorem encode_ldReg16Imm (r : Reg16) (nn : Word) :
    encode (.ldReg16Imm r nn) = [BitVec.ofNat 8 (0x01 + 16 * r.code), nn.setWidth 8, (nn >>> 8).setWidth 8] := by
  rw [← loByte_eq, ← hiByte_eq]
  rcases r with (_ | _) | _ <;> rfl

theorem encode_incReg16 (r : Reg16) : encode (.incReg16 r) = [BitVec.ofNat 8 (0x03 + 16 * r.code)] := by
  rcases r with (_ | _) | _ <;> rfl

theorem encode_decReg16 (r : Reg16) : encode (.decReg16 r) = [BitVec.ofNat 8 (0x0B + 16 * r.code)] := by
  rcases r with (_ | _) | _ <;> rfl

theorem encode_addHL (r : Reg16) : encode (.addHL r) = [BitVec.ofNat 8 (0x09 + 16 * r.code)] := by
  rcases r with (_ | _) | _ <;> rfl

theorem encode_pushReg (r : StackReg) : encode (.pushReg r) = [BitVec.ofNat 8 (0xC5 + 16 * r.code)] := by
  rcases r with (_ | _) | _ <;> rfl

theorem encode_popReg (r : StackReg) : encode (.popReg r) = [BitVec.ofNat 8 (0xC1 + 16 * r.code)] := by
  rcases r with (_ | _) | _ <;> rfl

theorem encode_jpIf (cc : Cond) (nn : Word) :
    encode (.jpIf cc nn) = [BitVec.ofNat 8 (0xC2 + 8 * cc.code), nn.setWidth 8, (nn >>> 8).setWidth 8] := by
  rw [← loByte_eq, ← hiByte_eq]
  cases cc <;> rfl

theorem encode_callIf (cc : Cond) (nn : Word) :
    encode (.callIf cc nn) = [BitVec.ofNat 8 (0xC4 + 8 * cc.code), nn.setWidth 8, (nn >>> 8).setWidth 8] := by
  rw [← loByte_eq, ← hiByte_eq]
  cases cc <;> rfl

theorem encode_jrIf (cc : Cond) (e : Byte) : encode (.jrIf cc e) = [BitVec.ofNat 8 (0x20 + 8 * cc.code), e] := by
  cases cc <;> rfl

theorem encode_retIf (cc : Cond) : encode (.retIf cc) = [BitVec.ofNat 8 (0xC0 + 8 * cc.code)] := by
  cases cc <;> rfl

theorem encode_rst (y : Fin 8) : encode (.rst y) = [BitVec.ofNat 8 (0xC7 + 8 * y.val)] := by
  fin_cases y <;> rfl

theorem encode_rot (op : RotOp) (o : Operand8) : encode (.rot op o) = [0xCB, BitVec.ofNat 8 (8 * op.code + o.code)] := by
  rcases o with (_ | _) | _ <;> cases op <;> rfl

theorem encode_bit (b : Fin 8) (o : Operand8) :
    encode (.bit b o) = [0xCB, BitVec.ofNat 8 (0x40 + 8 * b.val + o.code)] := by
  rcases o with (_ | _) | _ <;> fin_cases b <;> rfl

theorem encode_res (b : Fin 8) (o : Operand8) :
    encode (.res b o) = [0xCB, BitVec.ofNat 8 (0x80 + 8 * b.val + o.code)] := by
  rcases o with (_ | _) | _ <;> fin_cases b <;> rfl

theorem encode_set (b : Fin 8) (o : Operand8) :
    encode (.set b o) = [0xCB, BitVec.ofNat 8 (0xC0 + 8 * b.val + o.code)] := by
  rcases o with (_ | _) | _ <;> fin_cases b <;> rfl

/-- Settles O4: eleven closed words, each read off the tables. -/
theorem specEncodingsDecode : Obligations.SpecEncodingsDecode :=
  ⟨rfl, rfl, rfl, rfl, rfl, rfl, rfl, rfl, rfl, rfl, rfl⟩

/-- Settles O5, form by form. -/
theorem operandFieldsOfTheEncodings : Obligations.OperandFieldsOfTheEncodings :=
  ⟨encode_ldRegReg, encode_ldRegImm, encode_ldRegMem, encode_ldMemReg, encode_acc_op, encode_acc_imm,
    fun o => ⟨encode_incOp o, encode_decOp o⟩, encode_ldReg16Imm,
    fun r => ⟨encode_incReg16 r, encode_decReg16 r, encode_addHL r⟩, fun r => ⟨encode_pushReg r, encode_popReg r⟩,
    fun cc nn => ⟨encode_jpIf cc nn, encode_callIf cc nn⟩, fun cc e => ⟨encode_jrIf cc e, encode_retIf cc⟩, encode_rst,
    encode_rot, fun b o => ⟨encode_bit b o, encode_res b o, encode_set b o⟩⟩

end Sys2Proof
end

section
/-! SUPPORT. The mode loop of the PPU (50_ppu.md R410 to R415): the induction along its turns, the end of each mode, the bound on the
counter, ticks in sequence, and what a tick reads; and what settles O52, O53, O54 and O57. -/

namespace Sys2Proof.Machine

variable (sh : Shades) (m : Memory)

theorem Ppu.tick_of_lt {u : Ppu} {n : Nat} (h : u.counter + n < modeLength u.mode) :
    u.tick sh m n = (u.advance n, []) := by
  rw [Ppu.tick_eq, if_neg (Nat.not_le.2 h)]

theorem Ppu.tick_of_le {u : Ppu} {n : Nat} (h : modeLength u.mode ≤ u.counter + n) :
    u.tick sh m n =
      ((((u.advance n).endMode sh m).1.tick sh m 0).1,
        ((u.advance n).endMode sh m).2 ++ (((u.advance n).endMode sh m).1.tick sh m 0).2) := by
  rw [Ppu.tick_eq, if_pos h]

/-- Induction along the turns of the loop: a tick stays below the threshold, or it ends the mode and goes on with a tick of 0 cycles,
on a smaller counter. -/
theorem Ppu.tick_induction {motive : Nat → Ppu → Prop}
    (below : ∀ n u, u.counter + n < modeLength u.mode → motive n u)
    (ends : ∀ n u, modeLength u.mode ≤ u.counter + n → motive 0 ((u.advance n).endMode sh m).1 → motive n u)
    (n : Nat) (u : Ppu) : motive n u := by
  induction hc : u.counter + n using Nat.strongRecOn generalizing n u with
  | _ c ih =>
    rcases Nat.lt_or_ge (u.counter + n) (modeLength u.mode) with hlt | hle
    · exact below n u hlt
    · refine ends n u hle (ih _ ?_ 0 _ rfl)
      have hcounter : ((u.advance n).endMode sh m).1.counter = u.counter + n - modeLength u.mode :=
        (u.advance n).endMode_counter sh m
      have hpos := modeLength_ge u.mode
      omega

/-! ## The counter -/

theorem Ppu.tick_counter_lt (n : Nat) (u : Ppu) : (u.tick sh m n).1.counter < modeLength (u.tick sh m n).1.mode := by
  refine Ppu.tick_induction sh m (motive := fun n u => (u.tick sh m n).1.counter < modeLength (u.tick sh m n).1.mode)
    (fun n u hlt => ?_) (fun n u hle ih => ?_) n u
  · rw [Ppu.tick_of_lt sh m hlt]
    exact hlt
  · rw [Ppu.tick_of_le sh m hle]
    exact ih

/-- Settles O52: the loop exits below the threshold only, and the end of no mode writes a register but `LY`. -/
theorem tickBoundsTheCounterAndKeepsTheRegisters : Obligations.TickBoundsTheCounterAndKeepsTheRegisters := by
  intro sh m n u
  obtain ⟨hX, hY, hLcdc, hPalette⟩ := u.tick_sameRegs sh m n
  exact ⟨u.tick_counter_lt sh m n, hX, hY, hLcdc, hPalette⟩

/-! ## Ticks in sequence -/

theorem Ppu.advance_advance (u : Ppu) (k n : Nat) : (u.advance k).advance n = u.advance (k + n) := by
  simp only [Ppu.advance, Nat.add_assoc]

/-- Cycles already on the counter and cycles of the tick are alike to it. -/
theorem Ppu.tick_advance (u : Ppu) (k n : Nat) : (u.advance k).tick sh m n = u.tick sh m (k + n) := by
  simp only [Ppu.tick, Ppu.advance_advance]

/-- Settles O54, along the loop of the first tick: below the threshold the counter carries its cycles over, and the end of a mode does not
look at the second tick's cycles. -/
theorem ticksAdd : Obligations.TicksAdd := by
  intro sh m k n u
  refine Ppu.tick_induction sh m
    (motive := fun k u => u.tick sh m (k + n) =
      (((u.tick sh m k).1.tick sh m n).1, (u.tick sh m k).2 ++ ((u.tick sh m k).1.tick sh m n).2))
    (fun k u hlt => ?_) (fun k u hle ih => ?_) k u
  · rw [Ppu.tick_of_lt sh m hlt, ← Ppu.tick_advance]
    rfl
  · have hsum : modeLength u.mode ≤ u.counter + (k + n) := by omega
    have hend := (u.advance k).endMode_advance sh m n hle
    rw [Ppu.tick_of_le sh m hsum, Ppu.tick_of_le sh m hle, ← Ppu.advance_advance, hend, Ppu.tick_advance, Nat.add_comm n 0,
      ih, List.append_assoc]

theorem Ppu.tick_add (k n : Nat) (u : Ppu) : u.tick sh m (k + n) =
    (((u.tick sh m k).1.tick sh m n).1, (u.tick sh m k).2 ++ ((u.tick sh m k).1.tick sh m n).2) :=
  ticksAdd sh m k n u

/-! ## The end of each mode -/

/-- Rendering reads neither the counter nor the mode. -/
theorem renderScanline_counter_mode (u : Ppu) (c : Nat) (mode : PpuMode) :
    renderScanline sh m { u with counter := c, mode := mode } =
      { renderScanline sh m u with counter := c, mode := mode } := by
  simp only [renderScanline, apply_ite (fun v : Ppu => { v with counter := c, mode := mode })]
  rfl

variable {u : Ppu} {n : Nat}

theorem Ppu.tick_oamScan (hmode : u.mode = .oamScan) (h : 80 ≤ u.counter + n) :
    u.tick sh m n = Ppu.tick sh m 0 { u with counter := u.counter + n - 80, mode := .pixelTransfer } := by
  have hend : (u.advance n).endMode sh m = ({ u with counter := u.counter + n - 80, mode := .pixelTransfer }, []) := by
    simp [Ppu.endMode, Ppu.advance, Ppu.consume, Ppu.enter, hmode, modeLength]
  rw [Ppu.tick_of_le sh m (by rwa [hmode]), hend]
  rfl

theorem Ppu.tick_pixelTransfer (hmode : u.mode = .pixelTransfer) (h : 172 ≤ u.counter + n) :
    u.tick sh m n =
      Ppu.tick sh m 0 { renderScanline sh m u with counter := u.counter + n - 172, mode := .hBlank } := by
  have hend : (u.advance n).endMode sh m =
      ({ renderScanline sh m u with counter := u.counter + n - 172, mode := .hBlank }, []) := by
    have hrender := renderScanline_counter_mode sh m u (u.counter + n - 172) .pixelTransfer
    simp [Ppu.endMode, Ppu.advance, Ppu.consume, Ppu.enter, hmode, modeLength, hrender]
  rw [Ppu.tick_of_le sh m (by rwa [hmode]), hend]
  rfl

/-- The line after `line` is the first of VBlank for 142 alone. -/
theorem line_add_one_eq_143 (line : Byte) : line + 1 = 143#8 ↔ line = 142 := by
  constructor <;> intro h <;> bv_omega

theorem Ppu.tick_hBlank (hmode : u.mode = .hBlank) (h : 204 ≤ u.counter + n) (hline : u.line ≠ 142) :
    u.tick sh m n =
      Ppu.tick sh m 0 { u with counter := u.counter + n - 204, line := u.line + 1, mode := .oamScan } := by
  have hend : (u.advance n).endMode sh m =
      ({ u with counter := u.counter + n - 204, line := u.line + 1, mode := .oamScan }, []) := by
    have hnext : ¬ u.line + 1#8 = 143#8 := mt (line_add_one_eq_143 u.line).1 hline
    simp [Ppu.endMode, Ppu.advance, Ppu.consume, Ppu.enter, hmode, modeLength, hnext]
  rw [Ppu.tick_of_le sh m (by rwa [hmode]), hend]
  rfl

theorem Ppu.tick_hBlank_last (hmode : u.mode = .hBlank) (h : 204 ≤ u.counter + n) (hline : u.line = 142) :
    u.tick sh m n =
      ((Ppu.tick sh m 0 { u with counter := u.counter + n - 204, line := 143, mode := .vBlank }).1,
        u.framebuffer :: (Ppu.tick sh m 0 { u with counter := u.counter + n - 204, line := 143, mode := .vBlank }).2) := by
  have hend : (u.advance n).endMode sh m =
      ({ u with counter := u.counter + n - 204, line := 143, mode := .vBlank }, [u.framebuffer]) := by
    simp [Ppu.endMode, Ppu.advance, Ppu.consume, Ppu.enter, hmode, modeLength, hline]
  rw [Ppu.tick_of_le sh m (by rwa [hmode]), hend]
  rfl

theorem Ppu.tick_vBlank (hmode : u.mode = .vBlank) (h : 456 ≤ u.counter + n) :
    u.tick sh m n = Ppu.tick sh m 0
      (if 153 < (u.line + 1).toNat then { u with counter := u.counter + n - 456, line := 0, mode := .oamScan }
        else { u with counter := u.counter + n - 456, line := u.line + 1 }) := by
  have hend : (u.advance n).endMode sh m =
      (if 153 < (u.line + 1).toNat then { u with counter := u.counter + n - 456, line := 0, mode := .oamScan }
        else { u with counter := u.counter + n - 456, line := u.line + 1 }, []) := by
    by_cases hline : 153 < (u.line + 1).toNat
    · simp only [Ppu.endMode, Ppu.advance, Ppu.consume, Ppu.enter, hmode, modeLength, if_pos hline]
    · simp only [Ppu.endMode, Ppu.advance, Ppu.consume, Ppu.enter, hmode, modeLength, if_neg hline]
  rw [Ppu.tick_of_le sh m (by rwa [hmode]), hend]
  rfl

/-- Settles O53, mode by mode. -/
theorem tickRunsTheModeLoop : Obligations.TickRunsTheModeLoop := by
  refine ⟨fun sh m _ _ => Ppu.tick_of_lt sh m, fun sh m _ _ => Ppu.tick_oamScan sh m,
    fun sh m _ _ => Ppu.tick_pixelTransfer sh m, fun sh m _ _ => Ppu.tick_hBlank sh m, fun sh m n u hmode h hline => ?_,
    fun sh m _ _ => Ppu.tick_vBlank sh m⟩
  rw [Ppu.tick_hBlank_last sh m hmode h hline]
  exact ⟨rfl, rfl⟩

/-! ## What a tick reads -/

/-- The PPU with another LCDC and another X scroll. -/
def Ppu.restyled (u : Ppu) (lcdc : Lcdc) (scrollX : Byte) : Ppu := { u with lcdc := lcdc, scrollX := scrollX }

variable {lcdc : Lcdc} {scrollX : Byte}

/-- A pixel depends on the two select fields of LCDC and on the tile column of the X scroll alone. -/
theorem renderRow_restyled (hmap : lcdc.tileMapSelect = u.lcdc.tileMapSelect)
    (hdata : lcdc.tileDataSelect = u.lcdc.tileDataSelect) (hscroll : scrollX.toNat / 8 = u.scrollX.toNat / 8) :
    renderRow sh m (u.restyled lcdc scrollX) = renderRow sh m u := by
  simp only [renderRow, pixelCode, Ppu.restyled, hmap, hdata, hscroll]

theorem renderScanline_restyled (hmap : lcdc.tileMapSelect = u.lcdc.tileMapSelect)
    (hdata : lcdc.tileDataSelect = u.lcdc.tileDataSelect) (hscroll : scrollX.toNat / 8 = u.scrollX.toNat / 8) :
    renderScanline sh m (u.restyled lcdc scrollX) = (renderScanline sh m u).restyled lcdc scrollX := by
  simp only [renderScanline, renderRow_restyled sh m hmap hdata hscroll, apply_ite (Ppu.restyled · lcdc scrollX)]
  rfl

theorem Ppu.endMode_restyled (hmap : lcdc.tileMapSelect = u.lcdc.tileMapSelect)
    (hdata : lcdc.tileDataSelect = u.lcdc.tileDataSelect) (hscroll : scrollX.toNat / 8 = u.scrollX.toNat / 8) :
    (u.restyled lcdc scrollX).endMode sh m = ((u.endMode sh m).1.restyled lcdc scrollX, (u.endMode sh m).2) := by
  have hmode : (u.restyled lcdc scrollX).mode = u.mode := rfl
  have hconsume : (u.restyled lcdc scrollX).consume = u.consume.restyled lcdc scrollX := rfl
  have hline : (u.consume.restyled lcdc scrollX).line = u.consume.line := rfl
  have hrender := renderScanline_restyled sh m (u := u.consume) hmap hdata hscroll
  simp only [Ppu.endMode, hmode, hconsume, hline, hrender]
  split
  · rfl
  · rfl
  · split <;> rfl
  · split <;> rfl

/-- Settles O57, along the loop: rendering is the one thing in it that reads LCDC or the X scroll, and no mode's end writes them. -/
theorem fieldsWithoutEffect : Obligations.FieldsWithoutEffect := by
  intro sh m n u lcdc scrollX
  refine Ppu.tick_induction sh m
    (motive := fun n u => lcdc.tileMapSelect = u.lcdc.tileMapSelect → lcdc.tileDataSelect = u.lcdc.tileDataSelect →
      scrollX.toNat / 8 = u.scrollX.toNat / 8 →
      (u.restyled lcdc scrollX).tick sh m n = ((u.tick sh m n).1.restyled lcdc scrollX, (u.tick sh m n).2))
    (fun n u hlt _ _ _ => ?_) (fun n u hle ih hmap hdata hscroll => ?_) n u
  · rw [Ppu.tick_of_lt sh m hlt]
    exact Ppu.tick_of_lt sh m hlt
  · have hregs := (u.advance n).endMode_sameRegs sh m
    have hend := Ppu.endMode_restyled sh m (u := u.advance n) hmap hdata hscroll
    have hrest := ih (by rw [hregs.lcdc]; exact hmap) (by rw [hregs.lcdc]; exact hdata) (by rw [hregs.scrollX]; exact hscroll)
    rw [Ppu.tick_of_le sh m hle]
    refine (Ppu.tick_of_le sh m (u := u.restyled lcdc scrollX) hle).trans ?_
    rw [show (u.restyled lcdc scrollX).advance n = (u.advance n).restyled lcdc scrollX from rfl, hend, hrest]

end Sys2Proof.Machine
end

section
/-! SUPPORT. Whole lines of the mode loop in sequence (50_ppu.md R410 to R413, R423), and what settles O55. -/

namespace Sys2Proof.Machine

/-- The PPU at the very start of a mode on a line: nothing on its counter. -/
structure Ppu.AtStart (mode : PpuMode) (line : Byte) (u : Ppu) : Prop where
  mode_eq : u.mode = mode
  counter_eq : u.counter = 0
  line_eq : u.line = line

variable (sh : Shades) (m : Memory) {u : Ppu} {line : Byte}

/-- A rendered line's three modes end in HBlank with its 204 cycles still to count (80 + 172 + 204 = 456). -/
theorem Ppu.tick_to_hBlank (h : u.AtStart .oamScan line) {n : Nat} (k : Nat) (hn : n = 252 + k) :
    u.tick sh m n = Ppu.tick sh m 0 { renderScanline sh m u with counter := k, mode := .hBlank } := by
  have hrender := renderScanline_counter_mode sh m u (172 + k) .pixelTransfer
  have hcounter : u.counter + n - 80 = 172 + k := by
    rw [h.counter_eq]
    omega
  rw [Ppu.tick_oamScan sh m h.mode_eq (by omega), hcounter, Ppu.tick_pixelTransfer sh m rfl (by dsimp only; omega), hrender]
  simp

theorem Ppu.tick_visible_line (h : u.AtStart .oamScan line) (hline : line ≠ 142) :
    (u.tick sh m 456).1.AtStart .oamScan (line + 1) ∧ (u.tick sh m 456).2 = [] := by
  rw [← h.line_eq] at hline ⊢
  rw [Ppu.tick_to_hBlank sh m h 204 rfl, Ppu.tick_hBlank sh m rfl (by simp) (by simpa using hline),
    Ppu.tick_of_lt sh m (by simp [modeLength])]
  exact ⟨by constructor <;> simp [Ppu.advance], rfl⟩

theorem Ppu.tick_last_visible_line (h : u.AtStart .oamScan 142) :
    (u.tick sh m 456).1.AtStart .vBlank 143 ∧ (u.tick sh m 456).2.length = 1 := by
  rw [Ppu.tick_to_hBlank sh m h 204 rfl, Ppu.tick_hBlank_last sh m rfl (by simp) (by simpa using h.line_eq),
    Ppu.tick_of_lt sh m (by simp [modeLength])]
  exact ⟨by constructor <;> simp [Ppu.advance], rfl⟩

/-- One cycle short of the end of a line there is no present yet. -/
theorem Ppu.tick_short_of_line (h : u.AtStart .oamScan line) : (u.tick sh m 455).2 = [] := by
  rw [Ppu.tick_to_hBlank sh m h 203 rfl, Ppu.tick_of_lt sh m (by simp [modeLength])]

theorem Ppu.tick_vBlank_line (h : u.AtStart .vBlank line) (hline : ¬ 153 < (line + 1).toNat) :
    (u.tick sh m 456).1.AtStart .vBlank (line + 1) ∧ (u.tick sh m 456).2 = [] := by
  rw [← h.line_eq] at hline ⊢
  rw [Ppu.tick_vBlank sh m h.mode_eq (by omega), if_neg hline,
    Ppu.tick_of_lt sh m (by simp [modeLength, h.mode_eq, h.counter_eq])]
  exact ⟨by constructor <;> simp [Ppu.advance, h.mode_eq, h.counter_eq], rfl⟩

theorem Ppu.tick_last_vBlank_line (h : u.AtStart .vBlank 153) :
    (u.tick sh m 456).1.AtStart .oamScan 0 ∧ (u.tick sh m 456).2 = [] := by
  rw [Ppu.tick_vBlank sh m h.mode_eq (by omega), if_pos (by rw [h.line_eq]; decide),
    Ppu.tick_of_lt sh m (by simp [modeLength, h.counter_eq])]
  exact ⟨by constructor <;> simp [Ppu.advance, h.counter_eq], rfl⟩

theorem ofNat_add_one (n : Nat) : BitVec.ofNat 8 n + 1 = BitVec.ofNat 8 (n + 1) := (BitVec.ofNat_add n 1).symm

/-- A run of lines of one mode, none of which presents: what holds of one line from `first + j` holds of `k` in sequence. -/
theorem Ppu.tick_lines {mode : PpuMode} {first last : Nat}
    (one : ∀ (v : Ppu) (j : Nat), j < last → v.AtStart mode (BitVec.ofNat 8 (first + j)) →
      (v.tick sh m 456).1.AtStart mode (BitVec.ofNat 8 (first + j) + 1) ∧ (v.tick sh m 456).2 = [])
    (h : u.AtStart mode (BitVec.ofNat 8 first)) {k : Nat} (hk : k ≤ last) :
    (u.tick sh m (456 * k)).1.AtStart mode (BitVec.ofNat 8 (first + k)) ∧ (u.tick sh m (456 * k)).2 = [] := by
  induction k with
  | zero =>
    have hlt : u.counter + 456 * 0 < modeLength u.mode := by
      have := modeLength_ge u.mode
      rw [h.counter_eq]
      omega
    rw [Ppu.tick_of_lt sh m hlt]
    exact ⟨h, rfl⟩
  | succ k ih =>
    obtain ⟨hstart, hnone⟩ := ih (by omega)
    obtain ⟨hstart', hnone'⟩ := one _ k (by omega) hstart
    rw [Nat.mul_succ, Ppu.tick_add, hnone, hnone']
    rw [ofNat_add_one] at hstart'
    exact ⟨hstart', rfl⟩

/-- From the start of line 0 to the start of line 142. -/
theorem Ppu.tick_142_lines (h : u.AtStart .oamScan 0) :
    (u.tick sh m 64752).1.AtStart .oamScan 142 ∧ (u.tick sh m 64752).2 = [] := by
  refine Ppu.tick_lines sh m (first := 0) (last := 142) (fun v j hj hv => ?_) h (Nat.le_refl 142)
  exact Ppu.tick_visible_line sh m hv (by simp [← BitVec.toNat_inj]; omega)

/-- From the start of VBlank to the start of its last line. -/
theorem Ppu.tick_10_vBlank_lines (h : u.AtStart .vBlank 143) :
    (u.tick sh m 4560).1.AtStart .vBlank 153 ∧ (u.tick sh m 4560).2 = [] := by
  refine Ppu.tick_lines sh m (first := 143) (last := 10) (fun v j hj hv => ?_) h (Nat.le_refl 10)
  exact Ppu.tick_vBlank_line sh m hv (by rw [ofNat_add_one, BitVec.toNat_ofNat]; omega)

/-- A frame is 142 lines, the line that presents, ten lines of VBlank and its last one. -/
theorem Ppu.tick_frame (h : u.AtStart .oamScan 0) :
    (u.tick sh m 70224).1.AtStart .oamScan 0 ∧ (u.tick sh m 70224).2.length = 1 := by
  obtain ⟨h142, none142⟩ := Ppu.tick_142_lines sh m h
  obtain ⟨h143, one143⟩ := Ppu.tick_last_visible_line sh m h142
  obtain ⟨h153, none153⟩ := Ppu.tick_10_vBlank_lines sh m h143
  obtain ⟨h0, none0⟩ := Ppu.tick_last_vBlank_line sh m h153
  rw [show 70224 = 64752 + (456 + (4560 + 456)) from rfl]
  simp only [Ppu.tick_add]
  exact ⟨h0, by simp [none142, one143, none153, none0]⟩

/-- Settles O55: line by line. The present is that of line 142's end, 143 lines of 456 cycles from the start. -/
theorem frameIs70224Cycles : Obligations.FrameIs70224Cycles := by
  refine ⟨fun sh m u hmode hcounter hline => ?_, fun sh m u hmode hcounter hline => ?_,
    fun sh m u hmode hcounter hline => ?_⟩
  · have h : u.AtStart .oamScan 0 := ⟨hmode, hcounter, hline⟩
    obtain ⟨hend, hone⟩ := Ppu.tick_frame sh m h
    obtain ⟨h142, none142⟩ := Ppu.tick_142_lines sh m h
    refine ⟨hend.mode_eq, hend.counter_eq, hend.line_eq, hone, ?_⟩
    rw [show 65207 = 64752 + 455 from rfl, Ppu.tick_add, none142, Ppu.tick_short_of_line sh m h142]
    rfl
  · obtain ⟨hend, hnone⟩ := Ppu.tick_visible_line sh m ⟨hmode, hcounter, rfl⟩ hline
    exact ⟨hend.mode_eq, hend.counter_eq, hend.line_eq, hnone⟩
  · obtain ⟨hend, hone⟩ := Ppu.tick_last_visible_line sh m ⟨hmode, hcounter, hline⟩
    exact ⟨hend.mode_eq, hend.counter_eq, hend.line_eq, hone⟩

end Sys2Proof.Machine
end

section
/-! SUPPORT. The background renderer's addresses on the bus and its colours (50_ppu.md R416 to R421), and what settles O56. -/

namespace Sys2Proof.Machine

theorem vramByte_mapBase (m : Memory) (sel : Bool) (row col : Nat) :
    vramByte m (mapBase sel + row + col) = m.read ((if sel then 0x9C00 else 0x9800) + row + col) := by
  cases sel
  · exact congrArg m.read (by simp only [mapBase, Bool.false_eq_true, if_false]; omega)
  · exact congrArg m.read (by simp only [mapBase, if_true]; omega)

/-- Tile data is at 0x8000 by the index, or at 0x9000 by the signed index (R418). -/
theorem vramByte_tileAddr (m : Memory) (sel : Bool) (idx : Byte) (off : Nat) :
    vramByte m (tileAddr sel idx.toNat + off) =
      m.read ((if sel then 0x8000 + 16 * idx.toNat else (0x9000 + 16 * idx.toInt).toNat) + off) := by
  refine congrArg m.read ?_
  cases sel
  · have hlt := idx.isLt
    simp only [tileAddr, Bool.false_eq_true, if_false, BitVec.toInt_eq_toNat_cond]
    split <;> omega
  · simp only [tileAddr, if_true]
    omega

theorem Palette.code_colourIndex (p : Palette) (hi lo : Byte) (k : Nat) :
    p.code (colourIndex hi lo k) =
      match hi.getLsbD k, lo.getLsbD k with
      | false, false => p.p0
      | false, true => p.p1
      | true, false => p.p2
      | true, true => p.p3 := by
  unfold colourIndex
  cases hi.getLsbD k <;> cases lo.getLsbD k <;> rfl

theorem renderRow_length (sh : Shades) (m : Memory) (u : Ppu) : (renderRow sh m u).length = 160 := by
  simp [renderRow]

theorem renderRow_getElem? (sh : Shades) (m : Memory) (u : Ppu) {px : Nat} (h : px < 160) :
    (renderRow sh m u)[px]? = some (shadeOf sh (pixelCode m u px)) := by
  simp [renderRow, h]

theorem renderScanline_of_lt (sh : Shades) (m : Memory) {u : Ppu} (h : u.line.toNat < 144) :
    renderScanline sh m u = { u with framebuffer := u.framebuffer.set u.line.toNat (renderRow sh m u) } := if_pos h

theorem renderScanline_of_ge (sh : Shades) (m : Memory) {u : Ppu} (h : 144 ≤ u.line.toNat) :
    renderScanline sh m u = u := if_neg (Nat.not_lt.2 h)

theorem renderScanline_row_ne (sh : Shades) (m : Memory) (u : Ppu) {row : Nat} (h : row ≠ u.line.toNat) :
    (renderScanline sh m u).framebuffer[row]? = u.framebuffer[row]? := by
  rcases Nat.lt_or_ge u.line.toNat 144 with hlt | hge
  · rw [renderScanline_of_lt sh m hlt]
    exact List.getElem?_set_ne h.symm
  · rw [renderScanline_of_ge sh m hge]

/-- Settles O56: the rendered row is written where the line says, and each of its pixels is the palette's code of the two plane bits at the
addresses that the bus has for video RAM. -/
theorem scanlineRendersTheBackground : Obligations.ScanlineRendersTheBackground := by
  refine ⟨fun sh m u px hlen hline hpx => ?_, fun sh m u row => renderScanline_row_ne sh m u,
    fun sh m u => renderScanline_of_ge sh m, fun sh m u => by rw [renderScanline_eq]⟩
  intro y map idx tile lo hi code
  have hy : (u.scrollY.toNat + u.line.toNat) % 256 = y := (BitVec.toNat_add _ _).symm
  have hcode : pixelCode m u px = code := by
    simp only [pixelCode, hy, vramByte_mapBase, Nat.add_assoc (tileAddr _ _), vramByte_tileAddr, Palette.code_colourIndex]
    rfl
  have hrow : (renderScanline sh m u).framebuffer[u.line.toNat]? = some (renderRow sh m u) := by
    rw [renderScanline_of_lt sh m hline]
    exact List.getElem?_set_self (by rw [hlen]; exact hline)
  rw [hrow, Option.bind_some, renderRow_getElem? sh m u hpx, hcode]

end Sys2Proof.Machine
end

section
/-! SUPPORT. Canonical memories are determined by what they read, and how loading puts one together (20_memory.md R70, R71); and what settles
O28, O58 and O59. -/

namespace Sys2Proof.Machine

@[simp] theorem Memory.read_head (c : Host.Cell) (m : Memory) : Memory.read (c :: m) c.1 = c.2 := by
  simp [Memory.read]

theorem Memory.read_tail {c : Host.Cell} {a : Nat} (h : c.1 ≠ a) (m : Memory) : Memory.read (c :: m) a = m.read a := by
  simp [Memory.read, h]

/-- Below its first address a canonical memory lists nothing. -/
theorem Memory.read_lt_head {c : Host.Cell} {m : Memory} (hm : Memory.wf (c :: m)) {a : Nat} (h : a < c.1) :
    Memory.read (c :: m) a = unlistedByte := by
  obtain ⟨-, hlt, -⟩ := Memory.wf_tail hm
  refine Memory.read_unlisted fun d hd => ?_
  rcases List.mem_cons.1 hd with rfl | hd
  · omega
  · have := hlt d hd
    omega

/-- The first address of a canonical memory is the least that reads as a listed byte, so two that read alike begin alike. -/
theorem Memory.head_le_of_read_eq {c d : Host.Cell} {m n : Memory} (hm : Memory.wf (c :: m)) (hn : Memory.wf (d :: n))
    (h : ∀ a, Memory.read (c :: m) a = Memory.read (d :: n) a) : c.1 ≤ d.1 := by
  by_contra hlt
  obtain ⟨-, -, hd⟩ := Memory.wf_tail hn
  have hread := h d.1
  rw [Memory.read_lt_head hm (Nat.not_le.1 hlt), Memory.read_head] at hread
  exact hd hread.symm

theorem Memory.eq_of_read_eq {m n : Memory} (hm : m.wf) (hn : n.wf) (h : ∀ a, m.read a = n.read a) : m = n := by
  induction m generalizing n with
  | nil =>
    cases n with
    | nil => rfl
    | cons d n =>
      obtain ⟨-, -, hd⟩ := Memory.wf_tail hn
      exact absurd ((h d.1).trans (Memory.read_head d n)).symm hd
  | cons c m ih =>
    obtain ⟨hm', hcm, hc⟩ := Memory.wf_tail hm
    cases n with
    | nil => exact absurd ((Memory.read_head c m).symm.trans (h c.1)) hc
    | cons d n =>
      obtain ⟨hn', hdn, -⟩ := Memory.wf_tail hn
      have haddr : c.1 = d.1 :=
        Nat.le_antisymm (Memory.head_le_of_read_eq hm hn h) (Memory.head_le_of_read_eq hn hm fun a => (h a).symm)
      have hbyte : c.2 = d.2 := by
        have hread := h c.1
        rwa [Memory.read_head, haddr, Memory.read_head] at hread
      have htail : m = n := by
        refine ih hm' hn' fun a => ?_
        rcases eq_or_ne c.1 a with rfl | hne
        · rw [Memory.read_unlisted fun e he => (hcm e he).ne', Memory.read_unlisted fun e he => (haddr ▸ hdn e he).ne']
        · have hread := h a
          rwa [Memory.read_tail hne, Memory.read_tail (haddr ▸ hne)] at hread
      rw [htail, Prod.ext haddr hbyte]

/-- Settles O28: by induction, since the least listed address and its byte can be read off. -/
theorem equalReadsMeanEqualMemories : Obligations.EqualReadsMeanEqualMemories :=
  ⟨fun _ _ => Memory.eq_of_read_eq, fun _ a v => Memory.wf_write a v⟩

/-! ## Loading -/

theorem lt_length_of_mem_cellsOf {bytes : List Byte} {c : Host.Cell} (h : c ∈ cellsOf bytes) : c.1 < bytes.length := by
  obtain ⟨⟨v, k⟩, hmem, rfl⟩ := List.mem_map.1 h
  exact List.snd_lt_of_mem_zipIdx (List.mem_filter.1 hmem).1

theorem cellsOf_wf (bytes : List Byte) : (cellsOf bytes).wf := (wf_cellsOf bytes 0).1

theorem Memory.wf_filter {m : Memory} (p : Host.Cell → Bool) (h : m.wf) : Memory.wf (m.filter p) :=
  ⟨h.1.filter p, fun c hc => h.2 c (List.mem_filter.1 hc).1⟩

theorem Memory.wf_append {m n : Memory} (hm : m.wf) (hn : n.wf) (h : ∀ c ∈ m, ∀ d ∈ n, c.1 < d.1) :
    Memory.wf (m ++ n) :=
  ⟨List.pairwise_append.2 ⟨hm.1, hn.1, h⟩, fun c hc => (List.mem_append.1 hc).elim (hm.2 c) (hn.2 c)⟩

theorem Memory.read_append_right {m n : Memory} {a : Nat} (h : ∀ c ∈ m, c.1 ≠ a) : Memory.read (m ++ n) a = n.read a := by
  induction m with
  | nil => rfl
  | cons c m ih =>
    rw [List.cons_append, Memory.read_tail (h c List.mem_cons_self)]
    exact ih fun d hd => h d (List.mem_cons_of_mem c hd)

theorem Memory.read_append_left {m n : Memory} {a : Nat} (h : ∀ c ∈ n, c.1 ≠ a) : Memory.read (m ++ n) a = m.read a := by
  induction m with
  | nil => exact Memory.read_unlisted h
  | cons c m ih =>
    rcases eq_or_ne c.1 a with rfl | hne
    · rw [List.cons_append, Memory.read_head, Memory.read_head]
    · rw [List.cons_append, Memory.read_tail hne, Memory.read_tail hne, ih]

/-- Cells of other addresses may be dropped. -/
theorem Memory.read_filter (m : Memory) {p : Host.Cell → Bool} {a : Nat} (h : ∀ c : Host.Cell, c.1 = a → p c = true) :
    Memory.read (m.filter p) a = m.read a := by
  induction m with
  | nil => rfl
  | cons c m ih =>
    rcases eq_or_ne c.1 a with rfl | hne
    · rw [List.filter_cons_of_pos (h c rfl), Memory.read_head, Memory.read_head]
    · rw [List.filter_cons, Memory.read_tail hne]
      split
      · rw [Memory.read_tail hne, ih]
      · exact ih

/-- The memory with a cartridge in the addresses below 0x8000 and what was there from 0x8000 up. -/
def withCartridge (cart : List Byte) (m : Memory) : Memory :=
  cellsOf (cart.take 0x8000) ++ m.filter (fun c => decide (0x8000 ≤ c.1))

theorem loadCartridge_of_short {cart : List Byte} (h : cart.length < 0x8000) (s : State) :
    Session.loadCartridge cart s = .refused (.cartridgeTooShort cart.length) := if_pos h

theorem loadCartridge_of_long {cart : List Byte} (h : 0x8000 ≤ cart.length) (s : State) :
    Session.loadCartridge cart s = .next { s with mem := withCartridge cart s.mem } := if_neg (Nat.not_lt.2 h)

theorem lt_of_mem_cartridge {cart : List Byte} {c : Host.Cell} (h : c ∈ cellsOf (cart.take 0x8000)) : c.1 < 0x8000 :=
  Nat.lt_of_lt_of_le (lt_length_of_mem_cellsOf h) (List.length_take_le _ _)

theorem ge_of_mem_aboveRom {m : Memory} {c : Host.Cell} (h : c ∈ m.filter (fun c => decide (0x8000 ≤ c.1))) : 0x8000 ≤ c.1 :=
  of_decide_eq_true (List.mem_filter.1 h).2

theorem withCartridge_read_rom {cart : List Byte} (h : 0x8000 ≤ cart.length) (m : Memory) {a : Nat} (ha : a < 0x8000) :
    some ((withCartridge cart m).read a) = cart[a]? := by
  have hlt : a < cart.length := Nat.lt_of_lt_of_le ha h
  rw [withCartridge, Memory.read_append_left fun c hc => by have := ge_of_mem_aboveRom hc; omega, read_cellsOf,
    List.getElem?_take_of_lt ha, List.getElem?_eq_getElem hlt, Option.getD_some]

theorem withCartridge_read_above (cart : List Byte) (m : Memory) {a : Nat} (ha : 0x8000 ≤ a) :
    (withCartridge cart m).read a = m.read a := by
  rw [withCartridge, Memory.read_append_right fun c hc => by have := lt_of_mem_cartridge hc; omega]
  exact Memory.read_filter m fun c hc => by simpa [hc] using ha

theorem withCartridge_wf (cart : List Byte) {m : Memory} (h : m.wf) : (withCartridge cart m).wf :=
  Memory.wf_append (cellsOf_wf _) (Memory.wf_filter _ h) fun _ hc _ hd =>
    Nat.lt_of_lt_of_le (lt_of_mem_cartridge hc) (ge_of_mem_aboveRom hd)

/-- Under the overlay a loaded boot program is read from address 0 on. -/
theorem loadBootRom_peek {s : State} (h : s.bootOverlay = true) (rom : List Byte) {a : Word} (ha : a.toNat < 0x100) :
    (Session.loadBootRom rom s).peek a = rom[a.toNat]?.getD unlistedByte := by
  have hread : (Session.loadBootRom rom s).peek a = (cellsOf (rom.take 0x100)).read a.toNat := by
    simp [State.peek, Session.loadBootRom, h, ha]
  rw [hread, read_cellsOf, List.getElem?_take_of_lt ha]

/-- Settles O58: the first fetch is mapped, and is the overlay's read of address 0. -/
theorem firstFetchIsBootRomByte0 : Obligations.FirstFetchIsBootRomByte0 := by
  refine ⟨fun rom => ⟨rfl, rfl, ?firstByte⟩, fun s rom k hlen hover hk => ?_, fun _ _ => rfl⟩
  case firstByte =>
    have hleave : leaveBoot (Session.loadBootRom rom State.reset) = Session.loadBootRom rom State.reset := rfl
    have hbyte : (Session.loadBootRom rom State.reset).peek 0 = rom.headD 0 := by
      rw [loadBootRom_peek rfl rom (by decide)]
      cases rom <;> rfl
    rw [hleave, ← hbyte]
    exact ⟨_, fetch8_ok rfl⟩
  · have htoNat : (BitVec.ofNat 16 k).toNat = k := by
      rw [BitVec.toNat_ofNat]
      omega
    have hlt : k < rom.length := by omega
    rw [loadBootRom_peek hover rom (by omega), htoNat, List.getElem?_eq_getElem hlt, Option.getD_some]

theorem event_explicitReset {s : State} (h : s.running = true) :
    Session.event .explicitReset s = .next (Session.explicitReset s) := if_pos h

theorem event_shutdown {s : State} (h : s.running = true) : Session.event .shutdown s = .next (Session.shutdown s) := if_pos h

/-- Settles O59: each act of the host is its one update of the state, and none is made on a stopped machine. -/
theorem hostEventsTouchNothingElse : Obligations.HostEventsTouchNothingElse := by
  refine ⟨fun s cart h => loadCartridge_of_short h s, fun s cart h => ?load, fun s hrun => ?reset, fun s => ?shutdown,
    fun s e h => Session.event_of_not_running e h⟩
  case load =>
    exact ⟨_, loadCartridge_of_long h s, fun a ha => withCartridge_read_rom h s.mem ha,
      fun a ha => withCartridge_read_above cart s.mem ha, rfl⟩
  case reset =>
    refine ⟨_, event_explicitReset hrun, fun r => ?_, fun p => ?_, rfl, rfl, rfl, rfl⟩
    · cases r <;> rfl
    · have hzero : wordOf 0 0 = 0 := by decide
      cases p <;> exact hzero
  case shutdown =>
    cases hrun : s.running
    · exact ⟨s, Session.event_of_not_running _ hrun, hrun, by rw [← hrun]⟩
    · exact ⟨_, event_shutdown hrun, rfl, by rw [← hrun]; rfl⟩

end Sys2Proof.Machine
end

section
/-! SUPPORT. What the addresses of the PPU's registers read and store, and words on the bus (20_memory.md R61 to R66, 50_ppu.md R402); and
what settles O27, O29 and O60. -/

namespace Sys2Proof.Machine

theorem State.peek_ppuRegister (s : State) {a : Word} (h : ppuRegister a.toNat = true) :
    s.peek a = s.ppu.readReg s.cfg.lcdcBits a.toNat := by
  have hge : ¬ a.toNat < 0x100 := by
    have := ppuRegister_bound h
    omega
  simp [State.peek, hge, h]

theorem State.poke_ppuRegister (s : State) {a : Word} (v : Byte) (h : ppuRegister a.toNat = true) :
    s.poke a v = { s with ppu := s.ppu.writeReg s.cfg.lcdcBits a.toNat v } := by
  have hge : ¬ a.toNat < 0x8000 := by
    have := ppuRegister_bound h
    omega
  simp [State.poke, hge, h]

theorem State.peek_boot {s : State} {a : Word} (hover : s.bootOverlay = true) (ha : a.toNat < 0x100) :
    s.peek a = s.bootRom.read a.toNat := by
  simp [State.peek, hover, ha]

theorem State.peek_mem {s : State} {a : Word} (h : s.bootOverlay = false ∨ 0x100 ≤ a.toNat)
    (hp : ppuRegister a.toNat = false) : s.peek a = s.mem.read a.toNat := by
  rcases h with h | h
  · simp [State.peek, h, hp]
  · simp [State.peek, Nat.not_lt.2 h, hp]

/-- Settles O27: each region by its own read, and a store by what it leaves at its own and at every other address. -/
theorem regionsAndReadAfterWrite : Obligations.RegionsAndReadAfterWrite := by
  refine ⟨fun s a => State.peek_boot, fun s a h hp => ?_, fun s => ⟨?_, ?_, ?_⟩, fun s hwf => ?_, fun s => ?_,
    fun s a v hm hwf => State.peek_poke_self v hm (.inr hwf), fun s a v => State.poke_rom v, fun s a b v => State.peek_poke_ne s v⟩
  · exact State.peek_mem h (Bool.eq_false_iff.2 (mt (ppuRegister_iff a).1 hp))
  · exact s.peek_ppuRegister rfl
  · exact s.peek_ppuRegister rfl
  · exact s.peek_ppuRegister rfl
  · obtain ⟨-, -, -, hpositions⟩ := hwf
    have hlcdc : s.peek 0xFF40 = s.ppu.lcdc.pack s.cfg.lcdcBits := s.peek_ppuRegister rfl
    rw [hlcdc]
    exact Lcdc.pack_fields hpositions s.ppu.lcdc
  · exact s.peek_ppuRegister rfl

/-- Settles O60: each address is its own arm of the write column; the palette's entries are given as numbers. -/
theorem ppuRegisterStoresUnpack : Obligations.PpuRegisterStoresUnpack := by
  refine ⟨fun s v => s.poke_ppuRegister v rfl, rfl,
    fun s v => ⟨s.poke_ppuRegister v rfl, s.poke_ppuRegister v rfl, s.poke_ppuRegister v rfl⟩, fun s v => ?_⟩
  rw [← Palette.unpack_eq]
  exact s.poke_ppuRegister v rfl

theorem word_ne_add_one (a : Word) : a ≠ a + 1 := by
  intro h
  bv_omega

/-- The two bytes of a stored word read back where both addresses are storable. -/
theorem State.peek_poke_poke {s : State} {a b : Word} (lo hi : Byte) (hm : s.mem.wf) (hab : a ≠ b)
    (hc : (ppuRegister a.toNat = false ∧ ppuRegister b.toNat = false) ∨ s.cfg.wf) (ha : 0x8000 ≤ a.toNat)
    (hb : 0x8000 ≤ b.toNat) :
    ((s.poke a lo).poke b hi).peek a = lo ∧ ((s.poke a lo).poke b hi).peek b = hi := by
  constructor
  · rw [State.peek_poke_ne _ hi hab]
    exact State.peek_poke_self lo hm (hc.imp_left And.left) ha
  · exact State.peek_poke_self hi (State.poke_mem_wf a lo hm) (by simpa using hc.imp_left And.right) hb

/-- Settles O29: two byte accesses in address order; the second address is the next one, or 0x0000 after 0xFFFF, where a store is dropped. -/
theorem wordAccessIsLittleEndian : Obligations.WordAccessIsLittleEndian := by
  have hwrite (s : State) (a v : Word) (h₀ : s.unmappedAt a = false) (h₁ : s.unmappedAt (a + 1) = false) :
      writeWord a v s =
        .ok () ((s.poke a (BitVec.ofNat 8 (v.toNat % 256))).poke (a + 1) (BitVec.ofNat 8 (v.toNat / 256))) := by
    rw [← loByte_eq_ofNat, ← hiByte_eq_ofNat]
    exact writeWord_ok v h₀ h₁
  refine ⟨fun s a => readWord_ok, hwrite, fun s a v hm h₀ h₁ ha hlast hc => ?_, fun s v hm h₀ h₁ => ?_⟩
  · have hnext : 0x8000 ≤ (a + 1).toNat := by bv_omega
    obtain ⟨hlo, hhi⟩ := State.peek_poke_poke (s := s) (BitVec.ofNat 8 (v.toNat % 256)) (BitVec.ofNat 8 (v.toNat / 256)) hm
      (word_ne_add_one a) hc ha hnext
    refine ⟨_, hwrite s a v h₀ h₁, ?_, hlo, hhi⟩
    rw [readWord_ok (by simpa using h₀) (by simpa using h₁), hlo, hhi, ← loByte_eq_ofNat, ← hiByte_eq_ofNat,
      wordOf_hiByte_loByte]
  · have hdrop := hwrite s 0xFFFF v h₀ h₁
    rw [State.poke_rom (a := 0xFFFF + 1) _ (by decide)] at hdrop
    exact ⟨readWord_ok h₀ h₁, _, hdrop, rfl, State.peek_poke_self _ hm (.inl rfl) (by decide), State.peek_poke_ne s _ (by decide)⟩

end Sys2Proof.Machine
end

section
/-! SUPPORT. The additions and subtractions as arithmetic of words, their carries as bounds on sums of numbers (40_alu.md R132, R135 to R140),
logic, shifts and the nibble swap bit by bit (R141 to R144, R147 to R152); and what settles O19, O20, O22 and O24. -/

namespace Sys2Proof.Machine

theorem bitNat_eq_toNat (b : Bool) : bitNat b = b.toNat := by
  cases b <;> rfl

/-! ## Carries -/

/-- Bit `k` of a number below 2 ^ (k + 1) is its top bit. -/
theorem and_two_pow_beq {x k : Nat} (h : x < 2 ^ (k + 1)) : (x &&& 2 ^ k == 2 ^ k) = decide (2 ^ k ≤ x) := by
  have hpos : 0 < 2 ^ k := Nat.two_pow_pos k
  rw [Nat.and_two_pow, Nat.testBit_eq_decide_div_mod_eq]
  have htop : x / 2 ^ k % 2 = 1 ↔ 2 ^ k ≤ x := by
    have hdiv : x / 2 ^ k < 2 := (Nat.div_lt_iff_lt_mul hpos).2 (by rwa [Nat.mul_comm, ← Nat.pow_succ])
    rw [← Nat.one_le_div_iff hpos]
    generalize x / 2 ^ k = q at hdiv ⊢
    omega
  simp only [htop]
  by_cases hx : 2 ^ k ≤ x
  · simp [hx]
  · simp [hx, hpos.ne]

theorem halfCarry_eq (a b : Nat) (c : Bool) : halfCarry a b c.toNat = decide (16 ≤ a % 16 + b % 16 + c.toNat) := by
  have hc := Bool.toNat_le c
  have ha : a &&& 0xF = a % 16 := Nat.and_two_pow_sub_one_eq_mod a 4
  have hb : b &&& 0xF = b % 16 := Nat.and_two_pow_sub_one_eq_mod b 4
  rw [halfCarry, ha, hb]
  exact and_two_pow_beq (k := 4) (by omega)

theorem halfCarry16_eq (a b : Nat) : halfCarry16 a b = decide (4096 ≤ a % 4096 + b % 4096) := by
  have ha : a &&& 0xFFF = a % 4096 := Nat.and_two_pow_sub_one_eq_mod a 12
  have hb : b &&& 0xFFF = b % 4096 := Nat.and_two_pow_sub_one_eq_mod b 12
  rw [halfCarry16, ha, hb]
  exact and_two_pow_beq (k := 12) (by omega)

theorem halfBorrow_eq (a b c : Nat) : halfBorrow a b c = decide (a % 16 < b % 16 + c) := by
  have ha : a &&& 0xF = a % 16 := Nat.and_two_pow_sub_one_eq_mod a 4
  have hb : b &&& 0xF = b % 16 := Nat.and_two_pow_sub_one_eq_mod b 4
  rw [halfBorrow, ha, hb]

/-- The borrow of two nibbles is bit 4 of their two's-complement difference (R139). -/
theorem getLsbD_four_nibble_difference (x y : Fin 16) (c : Bool) :
    (BitVec.ofInt 8 ((x.val : Int) - y.val - c.toNat)).getLsbD 4 = decide (x.val < y.val + c.toNat) := by
  revert x y c
  decide +kernel

theorem halfBorrow_eq_getLsbD (a b : Nat) (c : Bool) : halfBorrow a b c.toNat =
    (BitVec.ofInt 8 ((a % 16 : Nat) - (b % 16 : Nat) - (c.toNat : Nat))).getLsbD 4 := by
  rw [halfBorrow_eq]
  exact (getLsbD_four_nibble_difference ⟨a % 16, by omega⟩ ⟨b % 16, by omega⟩ c).symm

/-! ## Addition and subtraction -/

theorem ofInt_toNat_sub_toNat {w : Nat} (a b : BitVec w) : BitVec.ofInt w ((a.toNat : Int) - b.toNat) = a - b := by
  rw [Int.sub_eq_add_neg, BitVec.ofInt_add, BitVec.ofInt_neg, BitVec.ofInt_natCast, BitVec.ofInt_natCast, BitVec.ofNat_toNat,
    BitVec.ofNat_toNat, BitVec.setWidth_eq, BitVec.setWidth_eq, ← BitVec.sub_eq_add_neg]

theorem Alu.decByte_eq (f : Flags) (v : Byte) : Alu.decByte f v = (v - 1, ⟨v == 1, true, v.toNat % 16 == 0, f.fC⟩) := by
  have hH : v.toNat &&& 0xF = v.toNat % 16 := Nat.and_two_pow_sub_one_eq_mod v.toNat 4
  simp only [Alu.decByte, ofInt_toNat_sub_one, sub_one_beq_zero, hH]

theorem Alu.addCarry_eq (a b : Byte) (c : Bool) : Alu.addCarry a b c.toNat =
    (a + b + BitVec.ofNat 8 c.toNat,
      ⟨a + b + BitVec.ofNat 8 c.toNat == 0, false, decide (16 ≤ a.toNat % 16 + b.toNat % 16 + c.toNat),
        decide (256 ≤ a.toNat + b.toNat + c.toNat)⟩) := by
  have hr : BitVec.ofNat 8 (a.toNat + b.toNat + c.toNat) = a + b + BitVec.ofNat 8 c.toNat := by
    simp [BitVec.ofNat_add]
  simp only [Alu.addCarry, hr, halfCarry_eq]
  rfl

theorem Alu.subCarry_eq (a b : Byte) (c : Bool) : Alu.subCarry a b c.toNat =
    (a - b - BitVec.ofNat 8 c.toNat,
      ⟨a - b - BitVec.ofNat 8 c.toNat == 0, true,
        (BitVec.ofInt 8 ((a.toNat % 16 : Nat) - (b.toNat % 16 : Nat) - (c.toNat : Nat))).getLsbD 4,
        decide (a.toNat < b.toNat + c.toNat)⟩) := by
  have hr : BitVec.ofInt 8 ((a.toNat : Int) - b.toNat - c.toNat) = a - b - BitVec.ofNat 8 c.toNat := by
    rw [Int.sub_eq_add_neg, BitVec.ofInt_add, ofInt_toNat_sub_toNat, BitVec.ofInt_neg, BitVec.ofInt_natCast,
      ← BitVec.sub_eq_add_neg]
  have hC : ((a.toNat : Int) - b.toNat - c.toNat < 0) ↔ a.toNat < b.toNat + c.toNat := by omega
  simp only [Alu.subCarry, hr, halfBorrow_eq_getLsbD, hC]

theorem Alu.addByte_eq (f : Flags) (a b : Byte) : Alu.addByte f a b =
    (a + b, ⟨a + b == 0, false, decide (16 ≤ a.toNat % 16 + b.toNat % 16), decide (256 ≤ a.toNat + b.toNat)⟩) := by
  rw [Alu.addByte]
  simpa using Alu.addCarry_eq a b false

theorem Alu.addByteWithCarry_eq (f : Flags) (a b : Byte) : Alu.addByteWithCarry f a b =
    (a + b + BitVec.ofNat 8 f.fC.toNat,
      ⟨a + b + BitVec.ofNat 8 f.fC.toNat == 0, false, decide (16 ≤ a.toNat % 16 + b.toNat % 16 + f.fC.toNat),
        decide (256 ≤ a.toNat + b.toNat + f.fC.toNat)⟩) := by
  rw [Alu.addByteWithCarry, bitNat_eq_toNat, Alu.addCarry_eq]

theorem sub_beq_zero {w : Nat} (a b : BitVec w) : (a - b == 0) = (a == b) := by
  rw [Bool.beq_eq_decide_eq, Bool.beq_eq_decide_eq, decide_eq_decide]
  exact sub_eq_zero

theorem Alu.subByte_eq (f : Flags) (a b : Byte) : Alu.subByte f a b =
    (a - b, ⟨a == b, true, (BitVec.ofInt 8 ((a.toNat % 16 : Nat) - (b.toNat % 16 : Nat))).getLsbD 4,
      decide (a.toNat < b.toNat)⟩) := by
  have hZ : (a - b == 0#8) = (a == b) := sub_beq_zero a b
  rw [Alu.subByte]
  simpa [hZ] using Alu.subCarry_eq a b false

theorem Alu.subByteWithCarry_eq (f : Flags) (a b : Byte) : Alu.subByteWithCarry f a b =
    (a - b - BitVec.ofNat 8 f.fC.toNat,
      ⟨a - b - BitVec.ofNat 8 f.fC.toNat == 0, true,
        (BitVec.ofInt 8 ((a.toNat % 16 : Nat) - (b.toNat % 16 : Nat) - (f.fC.toNat : Nat))).getLsbD 4,
        decide (a.toNat < b.toNat + f.fC.toNat)⟩) := by
  rw [Alu.subByteWithCarry, bitNat_eq_toNat, Alu.subCarry_eq]

theorem Alu.addWords_eq (f : Flags) (a b : Word) : Alu.addWords f a b =
    (a + b, ⟨f.fZ, false, decide (4096 ≤ a.toNat % 4096 + b.toNat % 4096), decide (65536 ≤ a.toNat + b.toNat)⟩) := by
  have hr : BitVec.ofNat 16 (a.toNat + b.toNat) = a + b := by
    simp [BitVec.ofNat_add]
  simp only [Alu.addWords, hr, halfCarry16_eq]
  rfl

/-- Settles O19: each primitive is its equation. -/
theorem addAndSubtractPrimitives : Obligations.AddAndSubtractPrimitives :=
  ⟨Alu.decByte_eq, Alu.addByte_eq, Alu.addByteWithCarry_eq, Alu.subByte_eq, Alu.subByteWithCarry_eq, Alu.addWords_eq⟩

/-! ## Logic and compare -/

theorem Alu.compare_eq (f : Flags) (a b : Byte) : Alu.compare f a b =
    ⟨a == b, true, decide (a.toNat % 16 < b.toNat % 16), decide (a.toNat < b.toNat)⟩ := by
  have hH : (Alu.subByte f a b).2.fH = decide (a.toNat % 16 < b.toNat % 16) := halfBorrow_eq a.toNat b.toNat 0
  rw [Alu.compare, ← hH, Alu.subByte_eq]

/-- Settles O20: the results bit by bit, and `compare` through the half-borrow of its subtraction. -/
theorem logicAndComparePrimitives : Obligations.LogicAndComparePrimitives :=
  ⟨fun _ _ _ => ⟨fun _ => BitVec.getLsbD_and, rfl⟩, fun _ _ _ => ⟨fun _ => BitVec.getLsbD_or, rfl⟩,
    fun _ _ _ => ⟨fun _ => BitVec.getLsbD_xor, rfl⟩, Alu.compare_eq⟩

/-! ## Shifts and the nibble swap -/

theorem Alu.getLsbD_shiftLeftSigned (f : Flags) (v : Byte) {k : Nat} (hk : k < 8) :
    (Alu.shiftLeftSigned f v).1.getLsbD k = if k = 0 then false else v.getLsbD (k - 1) := by
  have hvacated : v <<< 1 ||| BitVec.ofNat 8 (bitNat false) = v <<< 1 := BitVec.or_zero
  rw [← getLsbD_shiftLeft_or_bitNat v false hk, hvacated]
  rfl

/-- The sign bit alone, as the bit that enters a shift to the right. -/
theorem and_0x80_eq (v : Byte) : v &&& 0x80#8 = BitVec.ofNat 8 (bitNat (v.getLsbD 7) * 128) := by
  apply BitVec.eq_of_getLsbD_eq
  intro k hk
  have hmask : (0x80#8).getLsbD k = decide (7 = k) := getLsbD_ofNat_bitNat_mul true 7 hk
  rw [BitVec.getLsbD_and, hmask]
  refine Eq.trans ?_ (getLsbD_ofNat_bitNat_mul (v.getLsbD 7) 7 hk).symm
  by_cases h7 : 7 = k
  · rw [h7]
  · rw [decide_eq_false h7, Bool.and_false, Bool.and_false]

theorem Alu.getLsbD_shiftRightSigned (f : Flags) (v : Byte) {k : Nat} (hk : k < 8) :
    (Alu.shiftRightSigned f v).1.getLsbD k = v.getLsbD (if k = 7 then 7 else k + 1) := by
  have h := getLsbD_ushiftRight_or_bitNat v (v.getLsbD 7) hk
  rw [← and_0x80_eq, ← apply_ite v.getLsbD] at h
  exact h

theorem Alu.getLsbD_shiftRight (f : Flags) (v : Byte) {k : Nat} (hk : k < 8) :
    (Alu.shiftRight f v).1.getLsbD k = if k = 7 then false else v.getLsbD (k + 1) := by
  have hvacated : v >>> 1 ||| BitVec.ofNat 8 (bitNat false * 128) = v >>> 1 := BitVec.or_zero
  rw [← getLsbD_ushiftRight_or_bitNat v false hk, hvacated]
  rfl

theorem Alu.getLsbD_swap (f : Flags) (v : Byte) {k : Nat} (hk : k < 8) :
    (Alu.swap f v).1.getLsbD k = v.getLsbD ((k + 4) % 8) := by
  have hmask (j : Nat) (hj : j < 8) : (0x0F#8).getLsbD j = decide (j < 4) := by
    interval_cases j <;> rfl
  have hbits : (Alu.swap f v).1.getLsbD k =
      ((!decide (k < 4) && (v.getLsbD (k - 4) && (0x0F#8).getLsbD (k - 4))) || v.getLsbD (4 + k)) := by
    simp only [Alu.swap, BitVec.getLsbD_or, BitVec.getLsbD_shiftLeft, BitVec.getLsbD_and, BitVec.getLsbD_ushiftRight, hk,
      decide_true, Bool.true_and]
  rw [hbits, hmask (k - 4) (by omega)]
  rcases Nat.lt_or_ge k 4 with hlow | hhigh
  · simp [hlow, show (k + 4) % 8 = 4 + k by omega]
  · rw [show (k + 4) % 8 = k - 4 by omega, BitVec.getLsbD_of_ge v (4 + k) (by omega)]
    simp [Nat.not_lt.2 hhigh, show k - 4 < 4 by omega]

theorem Alu.swap_swap (f g : Flags) (v : Byte) : (Alu.swap g (Alu.swap f v).1).1 = v := by
  apply BitVec.eq_of_getLsbD_eq
  intro k hk
  rw [Alu.getLsbD_swap _ _ hk, Alu.getLsbD_swap _ _ (Nat.mod_lt _ (by decide)), show ((k + 4) % 8 + 4) % 8 = k by omega]

theorem Alu.swap_flags (f : Flags) (v : Byte) : (Alu.swap f v).2 = ⟨v == 0, false, false, false⟩ := by
  have hZ : ((Alu.swap f v).1 == 0) = (v == 0) :=
    beq_zero_of_leftInverse (r := fun v => (Alu.swap f v).1) (l := fun v => (Alu.swap f v).1) (Alu.swap_swap f f) rfl v
  rw [← hZ]
  rfl

/-- Settles O22: the results bit by bit; the swap is its own inverse, so it gives 0 from 0 alone. -/
theorem shiftPrimitives : Obligations.ShiftPrimitives :=
  ⟨fun f v => ⟨fun _ => getLsbD_shiftLeft_or_bitNat v f.fC, rfl⟩,
    fun f v => ⟨fun _ => getLsbD_ushiftRight_or_bitNat v f.fC, rfl⟩,
    fun f v => ⟨fun _ => Alu.getLsbD_shiftLeftSigned f v, rfl⟩, fun f v => ⟨fun _ => Alu.getLsbD_shiftRightSigned f v, rfl⟩,
    fun f v => ⟨fun _ => Alu.getLsbD_shiftRight f v, rfl⟩, fun f v => ⟨fun _ => Alu.getLsbD_swap f v, Alu.swap_flags f v⟩⟩

/-! ## The laws of R159 -/

theorem Alu.complement_complement (f g : Flags) (v : Byte) : (Alu.complement g (Alu.complement f v).1).1 = v := by
  apply BitVec.eq_of_getLsbD_eq
  intro k hk
  rw [Alu.getLsbD_complement _ _ hk, Alu.getLsbD_complement _ _ hk, Bool.not_not]

theorem shiftLeft_one_eq_add (v : Byte) : v <<< 1 = v + v := by
  rw [BitVec.shiftLeft_eq_mul_twoPow, ← BitVec.mul_two]
  rfl

/-- Settles O24: the laws are those of the words' arithmetic, read off the primitives' equations. -/
theorem aluLaws : Obligations.AluLaws := by
  refine ⟨fun f g v => ?_, fun f g a b => ?_, fun f a b => ?_, fun f g v => ?_, fun f g x => ?_, fun f x => ?_,
    fun f a b hC => ?_, fun f v => ?_⟩
  · simp only [Alu.decByte_eq, Alu.incByte_eq]
    exact ⟨add_sub_cancel_right v 1, sub_add_cancel v 1⟩
  · simp only [Alu.subByte_eq, Alu.addByte_eq]
    exact add_sub_cancel_right a b
  · rw [Alu.addByte_eq, Alu.subByte_eq]
    exact ⟨rfl, rfl⟩
  · exact ⟨Alu.swap_swap f g v, Alu.complement_complement f g v, BitVec.xor_self⟩
  · simp only [Alu.decWord_eq, Alu.incWord_eq]
    exact add_sub_cancel_right x 1
  · have hH : ¬ 4096 ≤ x.toNat % 4096 := by omega
    have hC : ¬ 65536 ≤ x.toNat := Nat.not_le.2 x.isLt
    simp [Alu.addWords_eq, hH, hC]
  · rw [Alu.addByteWithCarry, Alu.subByteWithCarry, hC]
    exact ⟨rfl, rfl⟩
  · rw [Alu.addByte_eq]
    exact shiftLeft_one_eq_add v

end Sys2Proof.Machine
end

section
/-! SUPPORT. What a step does, by the bytes at `pc` and by its outcome (60_exceptions.md R500, R505, R509, R516), and what settles O6, O7,
O9, O10, O11, O16 and O17. -/

namespace Sys2Proof

open Sys2Proof.Machine

/-! ## The fetch of a decoded instruction -/

theorem opcode_of_decode {op : Byte} {tail rest : List Byte} {i : Instr} (h : decode (op :: tail) = .ok (i, rest)) :
    i.opcode = op := by
  obtain ⟨hbytes, -⟩ := encodeOfDecodeIsTheBytes _ _ _ h
  have hpos : encode i ≠ [] := by
    cases i <;> exact List.cons_ne_nil _ _
  obtain ⟨b, tail', henc⟩ := List.exists_cons_of_ne_nil hpos
  rw [henc] at hbytes
  rw [Instr.opcode, henc, List.headD_cons]
  exact (List.cons.inj hbytes).1.symm

theorem add_one_add_one (a : Word) : a + 1 + 1 = a + 2 := by
  rw [BitVec.add_assoc]
  rfl

theorem add_one_add_two (a : Word) : a + 1 + 2 = a + 3 := by
  rw [BitVec.add_assoc]
  rfl

theorem FetchMapped.pc {s : State} {n : Nat} (h : FetchMapped s n) (hn : 0 < n) : s.unmappedAt s.pc = false := by
  simpa using h 0 hn

theorem opcodeFetched_peek (s : State) (a : Word) : (opcodeFetched s).peek a = (leaveBoot s).peek a := by
  simp [opcodeFetched]

theorem opcodeFetched_unmappedAt (s : State) (a : Word) : (opcodeFetched s).unmappedAt a = s.unmappedAt a := by
  simp [opcodeFetched]

theorem opcodeFetched_pc (s : State) : (opcodeFetched s).pc = s.pc + 1 := rfl

theorem fetched_eq (s : State) (n : Nat) :
    fetched s ((leaveBoot s).peek s.pc) n = (opcodeFetched s).setPc (s.pc + BitVec.ofNat 16 n) := rfl

/-- The operand fetch of the row at `pc`, in terms of the state before the step. -/
theorem fetchInstr_of_mapped_pc {s : State} (h : s.unmappedAt s.pc = false) : fetchInstr s =
    match fetchOperands ((leaveBoot s).peek s.pc) (opcodeFetched s) with
    | .error e u => .error (takeError e (some ((leaveBoot s).peek s.pc)) s.pc u)
    | .ok i u => .ok (i, u) := by
  rw [fetchInstr_eq, h]
  rfl

/-- With all its bytes mapped the instruction that they decode to is fetched. -/
theorem fetchInstr_of_decode {s : State} {i : Instr} {rest : List Byte} (h : decode (bytesAtPc s) = .ok (i, rest))
    (hmapped : FetchMapped s i.length) : fetchInstr s = .ok (i, fetched s i.opcode i.length) := by
  rw [opcode_of_decode h, fetched_eq]
  unfold bytesAtPc at h
  match hrow : primaryRow ((leaveBoot s).peek s.pc) with
  | .bare j =>
    rw [decode_of_bare hrow] at h
    cases h
    rw [length_of_bare hrow] at hmapped ⊢
    rw [fetchInstr_of_mapped_pc (hmapped.pc (by decide)), fetchOperands_eq, hrow]
    rfl
  | .imm8 f =>
    rw [decode_of_imm8 hrow] at h
    cases h
    rw [length_of_imm8 hrow] at hmapped ⊢
    have h₁ : s.unmappedAt (s.pc + 1) = false := hmapped 1 (by decide)
    rw [fetchInstr_of_mapped_pc (hmapped.pc (by decide)), fetchOperands_eq, hrow]
    simp only [opcodeFetched_pc, opcodeFetched_peek, opcodeFetched_unmappedAt, h₁, add_one_add_one]
    rfl
  | .imm16 f =>
    rw [decode_of_imm16 hrow] at h
    cases h
    rw [length_of_imm16 hrow] at hmapped ⊢
    have h₁ : s.unmappedAt (s.pc + 1) = false := hmapped 1 (by decide)
    have h₂ : s.unmappedAt (s.pc + 2) = false := hmapped 2 (by decide)
    rw [fetchInstr_of_mapped_pc (hmapped.pc (by decide)), fetchOperands_eq, hrow]
    simp only [opcodeFetched_pc, opcodeFetched_peek, opcodeFetched_unmappedAt, h₁, h₂, add_one_add_one, add_one_add_two]
    rfl
  | .ext =>
    rw [decode_of_ext hrow] at h
    cases h
    rw [length_extendedRow] at hmapped ⊢
    have h₁ : s.unmappedAt (s.pc + 1) = false := hmapped 1 (by decide)
    rw [fetchInstr_of_mapped_pc (hmapped.pc (by decide)), fetchOperands_eq, hrow]
    simp only [opcodeFetched_pc, opcodeFetched_peek, opcodeFetched_unmappedAt, h₁, add_one_add_one]
    rfl

/-- A byte after the first that is unmapped is where the fetch stops (30_encoding.md R116). -/
theorem fetchInstr_of_unmapped_byte {s : State} {i : Instr} {rest : List Byte} {k : Nat}
    (h : decode (bytesAtPc s) = .ok (i, rest)) (hk : 1 ≤ k) (hlen : k < i.length) (hmapped : FetchMapped s k)
    (hun : s.unmappedAt (s.pc + BitVec.ofNat 16 k) = true) :
    fetchInstr s = .error (takeError .memoryAccess (some i.opcode) s.pc (fetched s i.opcode k)) := by
  rw [opcode_of_decode h, fetched_eq, fetchInstr_of_mapped_pc (hmapped.pc hk), fetchOperands_eq]
  unfold bytesAtPc at h
  have first (h₁ : k = 1) : s.unmappedAt (s.pc + 1) = true := by
    rw [h₁] at hun
    exact hun
  match hrow : primaryRow ((leaveBoot s).peek s.pc) with
  | .bare j =>
    rw [decode_of_bare hrow] at h
    cases h
    rw [length_of_bare hrow] at hlen
    omega
  | .imm8 f =>
    rw [decode_of_imm8 hrow] at h
    cases h
    rw [length_of_imm8 hrow] at hlen
    obtain rfl : k = 1 := by omega
    simp only [opcodeFetched_pc, opcodeFetched_unmappedAt, first]
    rfl
  | .imm16 f =>
    rw [decode_of_imm16 hrow] at h
    cases h
    rw [length_of_imm16 hrow] at hlen
    obtain rfl | rfl : k = 1 ∨ k = 2 := by omega
    · simp only [opcodeFetched_pc, opcodeFetched_unmappedAt, first]
      rfl
    · have h₁ : s.unmappedAt (s.pc + 1) = false := hmapped 1 (by decide)
      have h₂ : s.unmappedAt (s.pc + 2) = true := hun
      simp only [opcodeFetched_pc, opcodeFetched_unmappedAt, h₁, h₂, add_one_add_one]
      rfl
  | .ext =>
    rw [decode_of_ext hrow] at h
    cases h
    rw [length_extendedRow] at hlen
    obtain rfl : k = 1 := by omega
    simp only [opcodeFetched_pc, opcodeFetched_unmappedAt, first]
    rfl

/-- Settles O6: the fetch gives the decoded instruction, and a running machine's step executes what the fetch gives. -/
theorem stepExecutesTheDecodedInstruction : Obligations.StepExecutesTheDecodedInstruction := by
  intro s i rest hrun hdec hmapped
  rw [step_of_running hrun, fetchInstr_of_decode hdec hmapped]

theorem step_of_unmapped_pc {s : State} (hrun : s.running = true) (h : s.unmappedAt s.pc = true) :
    step s = .next (takeError .memoryAccess none s.pc (leaveBoot s)) := by
  rw [step_of_running hrun, fetchInstr_eq, h]
  rfl

/-- Settles O10: the opcode byte's fetch, and that of byte `k`, each at the place where it raises. -/
theorem failedFetchStopsThere : Obligations.FailedFetchStopsThere := by
  refine ⟨fun s hrun hun => ?_, fun s i rest k hrun hdec hk hlen hmapped hun => ?_⟩
  · rw [← leaveBoot_log s, ← leaveBoot_history s]
    exact step_of_unmapped_pc hrun hun
  · rw [step_of_running hrun, fetchInstr_of_unmapped_byte hdec hk hlen hmapped hun]

/-! ## The outcomes of a step -/

/-- Where the operand fetch raises, it is at an unmapped byte, and `pc` stands there. -/
theorem fetchOperands_raises {op : Byte} {t u : State} {e : ErrorKind} (h : fetchOperands op t = .error e u) :
    e = .memoryAccess ∧ ∃ a, t.unmappedAt a = true ∧ u = t.setPc a := by
  rw [fetchOperands_eq] at h
  cases hrow : primaryRow op <;> simp only [hrow] at h
  case bare => cases h
  case imm16 =>
    split at h
    case isTrue hun =>
      cases h
      exact ⟨rfl, t.pc, hun, rfl⟩
    case isFalse =>
      split at h
      case isTrue hun =>
        cases h
        exact ⟨rfl, t.pc + 1, hun, rfl⟩
      case isFalse => cases h
  case imm8 | ext =>
    split at h
    case isTrue hun =>
      cases h
      exact ⟨rfl, t.pc, hun, rfl⟩
    case isFalse => cases h

/-- What a step of a running machine with a mapped opcode byte can do: an operand byte is unmapped and the fetch stops there, or an
instruction with that opcode is executed in the state that the fetch leaves. -/
theorem step_cases {s t : State} (hrun : s.running = true) (hpc : s.unmappedAt s.pc = false) (h : step s = .next t) :
    (∃ a, s.unmappedAt a = true ∧
      t = takeError .memoryAccess (some ((leaveBoot s).peek s.pc)) s.pc ((opcodeFetched s).setPc a)) ∨
    (∃ i eff a, Meaning i eff ∧ i.opcode = (leaveBoot s).peek s.pc ∧ i.address ((opcodeFetched s).setPc a) = s.pc ∧
      exec i ((opcodeFetched s).setPc a) = .next t) := by
  rw [step_of_running hrun] at h
  cases hf : fetchInstr s with
  | ok iu =>
    obtain ⟨i, u⟩ := iu
    rw [hf] at h
    obtain ⟨hwf, hop, haddr, rfl⟩ := fetchInstr_ok hf
    obtain ⟨eff, m⟩ := i.form hwf
    exact .inr ⟨i, eff, _, m, hop, haddr, h⟩
  | error u =>
    rw [hf] at h
    cases h
    rw [fetchInstr_of_mapped_pc hpc] at hf
    cases ho : fetchOperands ((leaveBoot s).peek s.pc) (opcodeFetched s) with
    | ok i v => rw [ho] at hf; cases hf
    | error e v =>
      rw [ho] at hf
      cases hf
      obtain ⟨rfl, a, hun, rfl⟩ := fetchOperands_raises ho
      exact .inl ⟨a, by rwa [opcodeFetched_unmappedAt] at hun, rfl⟩

theorem step_next (s : State) : ∃ t, step s = .next t := by
  cases hrun : s.running
  · exact ⟨s, step_of_not_running hrun⟩
  · obtain ⟨t, ht, -⟩ := step_bootOverlay hrun
    exact ⟨t, ht⟩

/-- Settles O11: an effect answers or raises, a fetch gives an instruction or raises, and raising is recovered from. -/
theorem executionAlwaysAnswersNext : Obligations.ExecutionAlwaysAnswersNext := ⟨exec_next, step_next⟩

/-- An instruction leaves `running` alone, unless it is `STOP`. -/
theorem exec_running {i : Instr} {s t : State} (h : exec i s = .next t) :
    t.running = if i = .stop then false else s.running := by
  rcases exec_ends h with ⟨j, eff, u, m, hends, hu⟩ | ⟨rfl, rfl⟩
  · rw [hends.running]
    rcases hu with ⟨rfl, rfl⟩ | ⟨rfl, rfl, rfl⟩
    · split
      case isTrue hstop =>
        subst hstop
        have hx := Meaning.stop.exec_ends (s := u) h
        rw [← hends.running, hx.running]
        rfl
      case isFalse hstop => exact m.after_running u hstop
    · exact m.after_running _ (extendedForm_ne _ (.inl (by decide)))
  · rfl

/-- Settles O7. -/
theorem onlyStopEndsTheRun : Obligations.OnlyStopEndsTheRun := by
  refine ⟨fun s => step_of_not_running, fun i s t => exec_running, fun s t hstep ht => ?_⟩
  cases hrun : s.running
  · rw [step_of_not_running hrun] at hstep
    cases hstep
    rw [← ht, hrun]
  · rfl

/-- An instruction makes no history entry. -/
theorem Meaning.exec_history {i : Instr} {eff : Exec Charge} (m : Meaning i eff) {s t : State}
    (h : exec i s = .next t) : t.history = s.history := by
  obtain ⟨-, -, -, hhistory, -⟩ := m.after_frame s
  rw [(m.exec_ends h).history, hhistory]

theorem step_history {s t : State} (hrun : s.running = true) (hpc : s.unmappedAt s.pc = false) (h : step s = .next t) :
    t.history = (opcodeFetched s).history := by
  rcases step_cases hrun hpc h with ⟨a, -, rfl⟩ | ⟨i, eff, a, m, -, -, hexec⟩
  · rfl
  · exact (m.exec_history hexec).trans rfl

/-- A recorded entry is the last one of a history that the depth bounds. -/
theorem State.record_history (s : State) (a : Word) (op : Byte) :
    (∃ old, old ++ (s.record a op).history = s.history ++ [⟨a, op⟩]) ∧
      (s.record a op).history.length = min s.cfg.historyDepth (s.history.length + 1) := by
  have hrecord : (s.record a op).history =
      (s.history ++ [(⟨a, op⟩ : HistoryEntry)]).drop (s.history.length + 1 - s.cfg.historyDepth) := by
    simp [State.record]
  rw [hrecord]
  refine ⟨⟨_, List.take_append_drop _ _⟩, ?_⟩
  rw [List.length_drop, List.length_append, List.length_singleton]
  omega

/-- Settles O9: however the step ends, the history is that of the fetched opcode. -/
theorem stepRecordsTheOpcode : Obligations.StepRecordsTheOpcode := by
  intro s hrun hpc
  obtain ⟨t, ht⟩ := step_next s
  obtain ⟨⟨old, hentry⟩, hlength⟩ := State.record_history ((leaveBoot s).setPc (s.pc + 1)) s.pc ((leaveBoot s).peek s.pc)
  have hhistory := step_history hrun hpc ht
  refine ⟨t, old, ht, ?_, ?_⟩
  · rw [hhistory, ← leaveBoot_history s]
    exact hentry
  · rw [hhistory, ← leaveBoot_history s, ← leaveBoot_cfg s]
    exact hlength

/-! ## Unsupported opcodes -/

/-- The thirteen rows are instructions of one byte, their opcode. -/
theorem encode_of_mem_unsupportedRows : ∀ i ∈ Instr.unsupportedRows, encode i = [i.opcode] ∧ i.wellFormed = true := by
  decide

theorem step_of_unsupportedRow {s : State} {i : Instr} (hi : i ∈ Instr.unsupportedRows) (hrun : s.running = true)
    (hpc : s.unmappedAt s.pc = false) (hop : (leaveBoot s).peek s.pc = i.opcode) :
    step s = .next (takeError .unsupportedOpcode (some i.opcode) s.pc (fetched s i.opcode 1)) := by
  obtain ⟨henc, hwf⟩ := encode_of_mem_unsupportedRows i hi
  have hlen : i.length = 1 := by rw [Instr.length, henc]; rfl
  have hbytes : bytesAtPc s = encode i ++ [(leaveBoot s).peek (s.pc + 1), (leaveBoot s).peek (s.pc + 2)] := by
    rw [henc, ← hop]
    rfl
  have hdec := decodeOfEncodeIsTheInstruction i [(leaveBoot s).peek (s.pc + 1), (leaveBoot s).peek (s.pc + 2)] hwf
  rw [← hbytes] at hdec
  have hmapped : FetchMapped s i.length := by
    rw [hlen]
    intro k hk
    obtain rfl : k = 0 := by omega
    simpa using hpc
  have haddr : i.address (fetched s i.opcode 1) = s.pc := by
    rw [Instr.address, hlen]
    exact BitVec.add_sub_cancel s.pc _
  have hraises : exec i (fetched s i.opcode 1) = _ := (Meaning.unsupported hi).raises (unsupported_eq _)
  rw [stepExecutesTheDecodedInstruction s i _ hrun hdec hmapped, hlen, hraises, haddr]

/-- Settles O17: such a row's effect raises at once, and its one byte has been fetched and recorded. -/
theorem unsupportedOpcodeIsLoggedAndSkipped : Obligations.UnsupportedOpcodeIsLoggedAndSkipped := by
  refine ⟨rfl, fun i hi => ⟨?_, fun s => (Meaning.unsupported hi).raises (unsupported_eq s), fun s hrun hpc hop => ?_⟩⟩
  · rw [Instr.length, (encode_of_mem_unsupportedRows i hi).1]
    rfl
  · refine ⟨_, rfl, (step_of_unsupportedRow hi hrun hpc hop).trans ?_⟩
    rw [← leaveBoot_log s]
    rfl

theorem operandUnmapped_of_mapped {s : State} (h : ∀ a, s.unmappedAt a = false) (o : Operand8) : s.operandUnmapped o = false := by
  cases o
  · rfl
  · exact h _

theorem sourceUnmapped_of_mapped {s : State} (h : ∀ a, s.unmappedAt a = false) (src : Source) :
    s.sourceUnmapped src = false := by
  cases src
  · exact operandUnmapped_of_mapped h _
  · rfl

/-- With every address mapped, an effect raises in the unsupported rows alone. -/
theorem Meaning.answers_of_mapped {i : Instr} {eff : Exec Charge} {s : State} (m : Meaning i eff)
    (hi : i ∉ Instr.unsupportedRows) (h : ∀ a, s.unmappedAt a = false) : ∃ ch u, eff s = .ok ch u := by
  cases m
  case unsupported hmem => exact absurd hmem hi
  case callIf cc nn | retIf cc => cases hcc : s.flags.holds cc <;> simp [h, hcc]
  all_goals simp [h, operandUnmapped_of_mapped h, sourceUnmapped_of_mapped h]

/-- Settles O16: with nothing unmapped a step records what its row raises, and a row raises unsupported or not at all. -/
theorem onlyUnsupportedOpcodesFailByDefault : Obligations.OnlyUnsupportedOpcodesFailByDefault := by
  intro s t hcfg hrun ht
  have hmapped (u : State) (hu : u.cfg = s.cfg) (a : Word) : u.unmappedAt a = false := by
    simp [State.unmappedAt, hu, hcfg]
  split
  case isTrue hrow =>
    obtain ⟨i, hi, hop⟩ := List.mem_map.1 hrow
    rw [step_of_unsupportedRow hi hrun (hmapped s rfl _) hop.symm] at ht
    cases ht
    rw [← hop, ← leaveBoot_log s]
    rfl
  case isFalse hrow =>
    rcases step_cases hrun (hmapped s rfl _) ht with ⟨a, hun, -⟩ | ⟨i, eff, a, m, hop, -, hexec⟩
    · rw [hmapped s rfl a] at hun
      cases hun
    · have hi : i ∉ Instr.unsupportedRows := fun hi => hrow (hop ▸ List.mem_map_of_mem hi)
      obtain ⟨ch, v, hv⟩ := m.answers_of_mapped hi (hmapped ((opcodeFetched s).setPc a) (leaveBoot_cfg s))
      obtain ⟨-, -, hvcfg, -, hvlog, -⟩ := m.after_frame ((opcodeFetched s).setPc a)
      rw [Exec.after, hv, stateOf_ok] at hvcfg hvlog
      obtain ⟨t', ht', hretires⟩ := m.completes hv
      rw [hexec] at ht'
      cases ht'
      rw [hretires.log, hvlog, hmapped v (hvcfg.trans (leaveBoot_cfg s)), Bool.and_false]
      simp [opcodeFetched]

end Sys2Proof
end

section
/-! SUPPORT. What an effect leaves of the PPU's own part, and the frames that rendering and ticking make (50_ppu.md R405, R415, R421). -/

namespace Sys2Proof

open Sys2Proof.Machine

/-- What no store of a program reaches in the PPU: its mode, its counter and its framebuffer (50_ppu.md R402, R405). -/
def Machine.Ppu.internals (u : Ppu) : PpuMode × Nat × Framebuffer := (u.mode, u.counter, u.framebuffer)

@[simp] theorem Machine.State.poke_internals (s : State) (a : Word) (v : Byte) :
    (s.poke a v).ppu.internals = s.ppu.internals := by
  rw [State.poke_ppu]
  split
  · unfold Ppu.writeReg
    repeat' split
    all_goals rfl
  · rfl

@[simp] theorem Machine.wordStored_internals (s : State) (a v : Word) : (wordStored s a v).ppu.internals = s.ppu.internals :=
  wordStored_of_poke (P := fun t => t.ppu.internals = s.ppu.internals)
    (fun u a v hu => (u.poke_internals a v).trans hu) a v rfl

@[simp] theorem Machine.pushed_internals (s : State) (v : Word) : (pushed s v).ppu.internals = s.ppu.internals := by
  simp [pushed]

@[simp] theorem Machine.State.putOperand_internals (s : State) (o : Operand8) (v : Byte) :
    (s.putOperand o v).ppu.internals = s.ppu.internals := by
  cases o <;> simp [State.putOperand]

theorem Meaning.after_internals {i : Instr} {eff : Exec Charge} (m : Meaning i eff) (s : State) :
    (eff.after s).ppu.internals = s.ppu.internals := by
  have hite (c : Prop) [Decidable c] (t u : State) : (if c then t else u).ppu.internals =
      if c then t.ppu.internals else u.ppu.internals := apply_ite (·.ppu.internals) c t u
  cases m <;> simp [Exec.after, hite]

theorem framed_renderScanline {sh : Shades} {m : Memory} {u : Ppu} (h : Framed u.framebuffer) :
    Framed (renderScanline sh m u).framebuffer := by
  obtain ⟨hrows, hcolumns⟩ := h
  rcases Nat.lt_or_ge u.line.toNat 144 with hlt | hge
  · rw [renderScanline_of_lt sh m hlt]
    refine ⟨(List.length_set ..).trans hrows, fun row hrow => ?_⟩
    rcases List.mem_or_eq_of_mem_set hrow with hold | rfl
    · exact hcolumns row hold
    · exact renderRow_length sh m u
  · rw [renderScanline_of_ge sh m hge]
    exact ⟨hrows, hcolumns⟩

theorem framed_endMode {sh : Shades} {m : Memory} {u : Ppu} (h : Framed u.framebuffer) :
    Framed (u.endMode sh m).1.framebuffer ∧ ∀ f ∈ (u.endMode sh m).2, Framed f := by
  unfold Ppu.endMode
  split
  · exact ⟨h, by simp⟩
  · exact ⟨framed_renderScanline (u := u.consume) h, by simp⟩
  · dsimp only
    split
    · exact ⟨h, fun f hf => List.mem_singleton.1 hf ▸ h⟩
    · exact ⟨h, by simp⟩
  · dsimp only
    split <;> exact ⟨h, by simp⟩

theorem framed_tick (sh : Shades) (m : Memory) (n : Nat) (u : Ppu) (h : Framed u.framebuffer) :
    Framed (u.tick sh m n).1.framebuffer ∧ ∀ f ∈ (u.tick sh m n).2, Framed f := by
  refine Ppu.tick_induction sh m (motive := fun n u => Framed u.framebuffer →
    Framed (u.tick sh m n).1.framebuffer ∧ ∀ f ∈ (u.tick sh m n).2, Framed f)
    (fun n u hlt h => ?_) (fun n u hle ih h => ?_) n u h
  · rw [Ppu.tick_of_lt sh m hlt]
    exact ⟨h, by simp⟩
  · obtain ⟨hbuffer, hpresents⟩ := framed_endMode (sh := sh) (m := m) (u := u.advance n) h
    obtain ⟨hbuffer', hpresents'⟩ := ih hbuffer
    rw [Ppu.tick_of_le sh m hle]
    exact ⟨hbuffer', fun f hf => (List.mem_append.1 hf).elim (hpresents f) (hpresents' f)⟩

end Sys2Proof
end

section
/-! SUPPORT. The machine invariant along the parts of a step and under the host's acts; cartridge ROM, the boot program and the parameters
(20_memory.md R71, R72); and what settles O12, O13 and O14. -/

namespace Sys2Proof

open Sys2Proof.Machine

/-- The form of the main memory: canonical, with addresses of its own. -/
def OwnMemory (m : Memory) : Prop := m.wf ∧ ∀ c ∈ m, c.1 < 0x10000 ∧ ppuRegister c.1 = false

theorem StateInv.ownMemory {s : State} (h : StateInv s) : OwnMemory s.mem := ⟨h.mem_wf, h.mem_addr⟩

theorem ownMemory_poke (s : State) (a : Word) (v : Byte) (h : OwnMemory s.mem) : OwnMemory (s.poke a v).mem := by
  obtain ⟨hwf, haddr⟩ := h
  refine ⟨State.poke_mem_wf a v hwf, fun c hc => ?_⟩
  rw [State.poke_mem] at hc
  split at hc
  case isTrue => exact haddr c hc
  case isFalse hown =>
    rcases Memory.mem_write hc with rfl | hold
    · exact ⟨a.isLt, Bool.eq_false_iff.2 fun hp => hown (.inr hp)⟩
    · exact haddr c hold

/-- The invariant speaks of these fields alone, and of the PPU through what no store reaches. -/
theorem StateInv.congr {s t : State} (h : StateInv s) (hmem : t.mem = s.mem) (hboot : t.bootRom = s.bootRom)
    (hppu : t.ppu = s.ppu) (hpresents : t.presents = s.presents) (hhistory : t.history = s.history) (hlog : t.log = s.log)
    (hcfg : t.cfg = s.cfg) : StateInv t where
  mem_wf := hmem ▸ h.mem_wf
  mem_addr := hmem ▸ h.mem_addr
  boot_wf := hboot ▸ h.boot_wf
  boot_addr := hboot ▸ h.boot_addr
  counter_lt := hppu ▸ h.counter_lt
  framed := hppu ▸ h.framed
  presents_framed := hpresents ▸ h.presents_framed
  history_le := by rw [hhistory, hcfg]; exact h.history_le
  log_le := by rw [hlog, hcfg]; exact h.log_le

/-- A record of the log holds the history as it stands. -/
theorem StateInv.log_append {s : State} (h : StateInv s) {records : List LogRecord}
    (hrecords : ∀ r ∈ records, r.history = s.history) : ∀ r ∈ s.log ++ records, r.history.length ≤ s.cfg.historyDepth := by
  intro r hr
  rcases List.mem_append.1 hr with hold | hnew
  · exact h.log_le r hold
  · rw [hrecords r hnew]
    exact h.history_le

theorem StateInv.takeError {s : State} (h : StateInv s) (e : ErrorKind) (op : Option Byte) (a : Word) :
    StateInv (takeError e op a s) where
  mem_wf := h.mem_wf
  mem_addr := h.mem_addr
  boot_wf := h.boot_wf
  boot_addr := h.boot_addr
  counter_lt := h.counter_lt
  framed := h.framed
  presents_framed := h.presents_framed
  history_le := h.history_le
  log_le := h.log_append (by simp)

theorem StateInv.leaveBoot {s : State} (h : StateInv s) : StateInv (leaveBoot s) := by
  apply h.congr <;> simp

theorem StateInv.setPc {s : State} (h : StateInv s) (a : Word) : StateInv (s.setPc a) := by
  apply h.congr <;> rfl

theorem StateInv.record {s : State} (h : StateInv s) (a : Word) (op : Byte) : StateInv (s.record a op) where
  mem_wf := h.mem_wf
  mem_addr := h.mem_addr
  boot_wf := h.boot_wf
  boot_addr := h.boot_addr
  counter_lt := h.counter_lt
  framed := h.framed
  presents_framed := h.presents_framed
  history_le := by
    rw [(State.record_history s a op).2]
    exact Nat.min_le_left _ _
  log_le := h.log_le

theorem StateInv.opcodeFetched {s : State} (h : StateInv s) : StateInv (opcodeFetched s) :=
  (h.leaveBoot.setPc _).record _ _

/-- What an effect leaves, whichever way it ends, has the invariant: its stores go to the memory's own addresses. -/
theorem Meaning.after_stateInv {i : Instr} {eff : Exec Charge} (m : Meaning i eff) {s : State} (h : StateInv s) :
    StateInv (eff.after s) := by
  obtain ⟨-, hboot, hcfg, hhistory, hlog, hpresents, -⟩ := m.after_frame s
  obtain ⟨hwf, haddr⟩ := m.after_mem ownMemory_poke h.ownMemory
  have hinternals := m.after_internals s
  simp only [Ppu.internals, Prod.mk.injEq] at hinternals
  obtain ⟨hmode, hcounter, hbuffer⟩ := hinternals
  exact {
    mem_wf := hwf
    mem_addr := haddr
    boot_wf := hboot ▸ h.boot_wf
    boot_addr := hboot ▸ h.boot_addr
    counter_lt := by rw [hmode, hcounter]; exact h.counter_lt
    framed := hbuffer ▸ h.framed
    presents_framed := hpresents ▸ h.presents_framed
    history_le := by rw [hhistory, hcfg]; exact h.history_le
    log_le := by rw [hlog, hcfg]; exact h.log_le }

theorem StateInv.retires {i : Instr} {a : Word} {ch : Charge} {u t : State} (h : StateInv u) (hr : Retires i a ch u t) :
    StateInv t := by
  obtain ⟨hbuffer, hpresents⟩ :=
    framed_tick u.cfg.shade u.mem (u.cfg.tickScale * costOf u.cfg i.row ch) u.ppu h.framed
  exact {
    mem_wf := hr.mem ▸ h.mem_wf
    mem_addr := hr.mem ▸ h.mem_addr
    boot_wf := hr.bootRom ▸ h.boot_wf
    boot_addr := hr.bootRom ▸ h.boot_addr
    counter_lt := by rw [hr.ppu]; exact Ppu.tick_counter_lt _ _ _ _
    framed := by rw [hr.ppu]; exact hbuffer
    presents_framed := by
      rw [hr.presents]
      exact fun f hf => (List.mem_append.1 hf).elim (h.presents_framed f) (hpresents f)
    history_le := by rw [hr.history, hr.cfg]; exact h.history_le
    log_le := by
      rw [hr.log, hr.cfg]
      refine h.log_append fun r hmem => ?_
      split at hmem
      · rw [List.mem_singleton.1 hmem]
      · cases hmem }

theorem Meaning.exec_stateInv {i : Instr} {eff : Exec Charge} (m : Meaning i eff) {s t : State} (h : StateInv s)
    (hexec : exec i s = .next t) : StateInv t := by
  have hafter := m.after_stateInv h
  rcases m.exec_cases hexec with ⟨ch, u, he, hr⟩ | ⟨e, u, he, rfl⟩
  · rw [Exec.after, he] at hafter
    exact StateInv.retires hafter hr
  · rw [Exec.after, he] at hafter
    exact StateInv.takeError hafter _ _ _

theorem step_stateInv {s t : State} (h : StateInv s) (hstep : step s = .next t) : StateInv t := by
  cases hrun : s.running with
  | false =>
    rw [step_of_not_running hrun] at hstep
    cases hstep
    exact h
  | true =>
    cases hpc : s.unmappedAt s.pc with
    | true =>
      rw [step_of_unmapped_pc hrun hpc] at hstep
      cases hstep
      exact h.leaveBoot.takeError _ _ _
    | false =>
      rcases step_cases hrun hpc hstep with ⟨a, -, rfl⟩ | ⟨i, eff, a, m, -, -, hexec⟩
      · exact (h.opcodeFetched.setPc a).takeError _ _ _
      · exact m.exec_stateInv (h.opcodeFetched.setPc a) hexec

theorem event_stateInv {s t : State} {e : SessionEvent} (h : StateInv s) (hevent : Session.event e s = .next t) :
    StateInv t := by
  unfold Session.event at hevent
  split at hevent
  case isTrue =>
    cases e with
    | step => exact step_stateInv h hevent
    | shutdown | explicitReset =>
      cases hevent
      apply h.congr <;> rfl
  case isFalse =>
    cases hevent
    exact h

theorem loadBootRom_stateInv {s : State} (h : StateInv s) (rom : List Byte) : StateInv (Session.loadBootRom rom s) where
  mem_wf := h.mem_wf
  mem_addr := h.mem_addr
  boot_wf := cellsOf_wf _
  boot_addr _ hc := Nat.lt_of_lt_of_le (lt_length_of_mem_cellsOf hc) (List.length_take_le _ _)
  counter_lt := h.counter_lt
  framed := h.framed
  presents_framed := h.presents_framed
  history_le := h.history_le
  log_le := h.log_le

theorem withCartridge_ownMemory (cart : List Byte) {m : Memory} (h : OwnMemory m) : OwnMemory (withCartridge cart m) := by
  obtain ⟨hwf, haddr⟩ := h
  refine ⟨withCartridge_wf cart hwf, fun c hc => ?_⟩
  rcases List.mem_append.1 hc with hrom | habove
  · have hlt := lt_of_mem_cartridge hrom
    refine ⟨by omega, Bool.eq_false_iff.2 fun hp => ?_⟩
    have := ppuRegister_bound hp
    omega
  · exact haddr c (List.mem_filter.1 habove).1

theorem loadCartridge_stateInv {s t : State} {cart : List Byte} (h : StateInv s)
    (hload : Session.loadCartridge cart s = .next t) : StateInv t := by
  rcases Nat.lt_or_ge cart.length 0x8000 with hshort | hlong
  · rw [loadCartridge_of_short hshort] at hload
    cases hload
  · rw [loadCartridge_of_long hlong] at hload
    cases hload
    obtain ⟨hwf, haddr⟩ := withCartridge_ownMemory cart h.ownMemory
    exact {
      mem_wf := hwf
      mem_addr := haddr
      boot_wf := h.boot_wf
      boot_addr := h.boot_addr
      counter_lt := h.counter_lt
      framed := h.framed
      presents_framed := h.presents_framed
      history_le := h.history_le
      log_le := h.log_le }

/-- Settles O12: the fetch, the effect and the run loop's part each keep the invariant, and so does each act of the host. -/
theorem stepKeepsInv : Obligations.StepKeepsInv :=
  ⟨fun _ _ => step_stateInv, fun _ _ _ => event_stateInv, fun _ rom h => loadBootRom_stateInv h rom,
    fun _ _ _ => loadCartridge_stateInv⟩

/-- Settles O13: the lists are empty and the framebuffer is 144 rows of 160. -/
theorem resetHasInv : Obligations.ResetHasInv where
  mem_wf := Memory.wf_nil
  mem_addr _ hc := nomatch hc
  boot_wf := Memory.wf_nil
  boot_addr _ hc := nomatch hc
  counter_lt := by decide
  framed := ⟨List.length_replicate, fun row hrow => by rw [List.eq_of_mem_replicate hrow, List.length_replicate]⟩
  presents_framed _ hf := nomatch hf
  history_le := Nat.zero_le _
  log_le _ hr := nomatch hr

/-! ## ROM, the boot program and the parameters -/

/-- Two states with the same parameters, boot program and cartridge ROM. -/
structure SameProgram (s t : State) : Prop where
  cfg : t.cfg = s.cfg
  bootRom : t.bootRom = s.bootRom
  rom : ∀ a, a < 0x8000 → t.mem.read a = s.mem.read a

theorem SameProgram.of_fields {s t : State} (hcfg : t.cfg = s.cfg) (hboot : t.bootRom = s.bootRom) (hmem : t.mem = s.mem) :
    SameProgram s t := ⟨hcfg, hboot, fun _ _ => by rw [hmem]⟩

theorem SameProgram.trans {s t u : State} (h : SameProgram s t) (h' : SameProgram t u) : SameProgram s u :=
  ⟨h'.cfg.trans h.cfg, h'.bootRom.trans h.bootRom, fun a ha => (h'.rom a ha).trans (h.rom a ha)⟩

theorem poke_mem_read_rom (s : State) (a : Word) (v : Byte) {b : Nat} (hb : b < 0x8000) :
    (s.poke a v).mem.read b = s.mem.read b := by
  rw [State.poke_mem]
  split
  · rfl
  · exact Memory.read_write_ne _ v (by omega)

theorem Meaning.exec_sameProgram {i : Instr} {eff : Exec Charge} (m : Meaning i eff) {s t : State}
    (h : exec i s = .next t) : SameProgram s t := by
  obtain ⟨-, hboot, hcfg, -⟩ := m.after_frame s
  have hends := m.exec_ends h
  have hrom : ∀ a, a < 0x8000 → (eff.after s).mem.read a = s.mem.read a :=
    m.after_mem (P := fun n => ∀ a, a < 0x8000 → n.read a = s.mem.read a)
      (fun u a v hu b hb => (poke_mem_read_rom u a v hb).trans (hu b hb)) fun _ _ => rfl
  exact ⟨hends.cfg.trans hcfg, hends.bootRom.trans hboot, fun a ha => by rw [hends.mem, hrom a ha]⟩

theorem opcodeFetched_sameProgram (s : State) (a : Word) : SameProgram s ((opcodeFetched s).setPc a) :=
  .of_fields (leaveBoot_cfg s) (leaveBoot_bootRom s) (leaveBoot_mem s)

/-- Settles O14: a fetch writes none of the three, no effect writes the parameters or the boot program, and every store below 0x8000 is
dropped. -/
theorem romAndParametersNeverChange : Obligations.RomAndParametersNeverChange := by
  intro s t hstep
  suffices h : SameProgram s t from ⟨h.cfg, h.bootRom, h.rom⟩
  cases hrun : s.running with
  | false =>
    rw [step_of_not_running hrun] at hstep
    cases hstep
    exact .of_fields rfl rfl rfl
  | true =>
    cases hpc : s.unmappedAt s.pc with
    | true =>
      rw [step_of_unmapped_pc hrun hpc] at hstep
      cases hstep
      exact .of_fields (leaveBoot_cfg s) (leaveBoot_bootRom s) (leaveBoot_mem s)
    | false =>
      rcases step_cases hrun hpc hstep with ⟨a, -, rfl⟩ | ⟨i, eff, a, m, -, -, hexec⟩
      · exact (opcodeFetched_sameProgram s a).trans (.of_fields rfl rfl rfl)
      · exact (opcodeFetched_sameProgram s a).trans (m.exec_sameProgram hexec)

end Sys2Proof
end

section
/-! SUPPORT. Two steps that differ in `interruptsEnabled` and the log alone (10_state.md R29, 60_exceptions.md R513), and what settles O15. -/

namespace Sys2Proof

open Sys2Proof.Machine

/-- What an instruction leaves in `interruptsEnabled` (47_system.md R363, R364; 45_control.md R310). -/
theorem exec_interruptsEnabled {i : Instr} {s t : State} (h : exec i s = .next t) : t.interruptsEnabled =
    if i = .ei then true else if i = .di then false
    else if i = .reti ∧ s.unmappedAt s.sp = false ∧ s.unmappedAt (s.sp + 1) = false then true
    else s.interruptsEnabled := by
  by_cases hei : i = .ei
  · subst hei
    rw [(Meaning.ei.exec_ends h).interruptsEnabled, if_pos rfl]
    rfl
  by_cases hdi : i = .di
  · subst hdi
    rw [(Meaning.di.exec_ends h).interruptsEnabled, if_neg (by decide), if_pos rfl]
    rfl
  by_cases hreti : i = .reti
  · subst hreti
    rw [(Meaning.reti.exec_ends h).interruptsEnabled, if_neg hei, if_neg hdi, Exec.after, reti_eq]
    cases s.unmappedAt s.sp <;> cases s.unmappedAt (s.sp + 1) <;> simp
  rw [if_neg hei, if_neg hdi, if_neg fun hr => hreti hr.1]
  rcases exec_ends h with ⟨j, eff, u, m, hends, hu⟩ | ⟨rfl, rfl⟩
  · rw [hends.interruptsEnabled]
    rcases hu with ⟨rfl, rfl⟩ | ⟨rfl, rfl, rfl⟩
    · exact m.after_interruptsEnabled u hei hdi hreti
    · exact m.after_interruptsEnabled _ (extendedForm_ne _ (.inl (by decide))) (extendedForm_ne _ (.inl (by decide)))
        (extendedForm_ne _ (.inl (by decide)))
  · rfl

/-- The records that the interrupt sample of a state appends, given the record of its failing. -/
def sampleRecords (enabled unmapped : Bool) (sample : LogRecord) : List LogRecord :=
  if enabled && unmapped then [sample] else []

/-- Two states that differ in the enable and the log alone, each log the one before with its own new records. -/
structure GatedPair (log l : List LogRecord) (t t' : State) (new new' : List LogRecord) : Prop where
  same : { t' with interruptsEnabled := t.interruptsEnabled, log := t.log } = t
  log_eq : t.log = log ++ new
  log_eq' : t'.log = l ++ new'

theorem gatedPair_gated (t : State) (on : Bool) (l : List LogRecord) : GatedPair t.log l t (t.gated on l) [] [] :=
  ⟨rfl, (List.append_nil _).symm, (List.append_nil _).symm⟩

theorem gatedPair_takeError (e : ErrorKind) (op : Option Byte) (a : Word) (u : State) (on : Bool) (l : List LogRecord) :
    GatedPair u.log l (takeError e op a u) (takeError e op a (u.gated on l)) [⟨e, op, a, u.history⟩] [⟨e, op, a, u.history⟩] :=
  ⟨rfl, rfl, rfl⟩

/-- Retiring reads the enable in the sample alone. -/
theorem gatedPair_retire (row : OpRow) (a : Word) (ch : Charge) (v : State) (on : Bool) (l : List LogRecord) :
    GatedPair v.log l (retire row a ch v) (retire row a ch (v.gated on l))
      (sampleRecords v.interruptsEnabled (v.unmappedAt 0xFF0F) ⟨.memoryAccess, some (opcodeByte row), a, v.history⟩)
      (sampleRecords on (v.unmappedAt 0xFF0F) ⟨.memoryAccess, some (opcodeByte row), a, v.history⟩) := by
  simp only [retire, sampleInterrupt_eq]
  exact ⟨rfl, rfl, rfl⟩

/-- How the records of two runs may differ: not at all, or by the sample of the run that ends with interrupts enabled. -/
def SameButSample (unmapped enabled enabled' : Bool) (sample : LogRecord) (new new' : List LogRecord) : Prop :=
  new' = new ∨ unmapped = true ∧
    (enabled = false ∧ new = [] ∧ enabled' = true ∧ new' = [sample] ∨
      enabled = true ∧ new = [sample] ∧ enabled' = false ∧ new' = [])

theorem sameButSample_sampleRecords (unmapped enabled enabled' : Bool) (sample : LogRecord) :
    SameButSample unmapped enabled enabled' sample (sampleRecords enabled unmapped sample)
      (sampleRecords enabled' unmapped sample) := by
  cases unmapped <;> cases enabled <;> cases enabled' <;> simp [SameButSample, sampleRecords]

/-- An instruction executed in two states that differ in the enable and the log alone. -/
theorem Meaning.exec_gated {i : Instr} {eff : Exec Charge} (m : Meaning i eff) {u t t' : State} {on : Bool} {l : List LogRecord}
    (h : exec i u = .next t) (h' : exec i (u.gated on l) = .next t') :
    ∃ new new', GatedPair u.log l t t' new new' ∧
      SameButSample (u.unmappedAt 0xFF0F) t.interruptsEnabled t'.interruptsEnabled
        ⟨.memoryAccess, some i.opcode, i.address u, t.history⟩ new new' := by
  obtain ⟨on', hgated⟩ := m.gated u on l
  obtain ⟨-, -, hcfg, -, hlog, -⟩ := m.after_frame u
  rw [m.exec_eq] at h h'
  rw [Instr.opcode_eq]
  cases he : eff u with
  | error e v =>
    rw [he] at hgated
    simp only [complete, he, hgated] at h h'
    cases h
    cases h'
    rw [Exec.after, he, stateOf_error] at hlog
    exact ⟨_, _, hlog ▸ gatedPair_takeError _ _ _ v on' l, .inl rfl⟩
  | ok ch v =>
    rw [he] at hgated
    simp only [complete, he, hgated] at h h'
    cases h
    cases h'
    rw [Exec.after, he, stateOf_ok] at hcfg hlog
    refine ⟨_, _, hlog ▸ gatedPair_retire i.row _ ch v on' l, ?_⟩
    rw [← State.unmappedAt_congr hcfg]
    simp only [retire, sampleInterrupt_interruptsEnabled, reportCost_interruptsEnabled, sampleInterrupt_history,
      reportCost_history]
    exact sameButSample_sampleRecords _ _ on' _

/-- Settles O15: no effect and no fetch reads the enable or the log, so two such steps run alike up to their samples. -/
theorem interruptEnableOnlyGatesTheSample : Obligations.InterruptEnableOnlyGatesTheSample := by
  refine ⟨fun i s t => exec_interruptsEnabled, fun s t t' on l hstep hstep' => ?_⟩
  suffices h : ∃ new new', GatedPair s.log l t t' new new' ∧
      SameButSample (s.unmappedAt 0xFF0F) t.interruptsEnabled t'.interruptsEnabled
        ⟨.memoryAccess, some ((leaveBoot s).peek s.pc), s.pc, t.history⟩ new new' by
    obtain ⟨new, new', hpair, hsample⟩ := h
    exact ⟨hpair.same, new, new', hpair.log_eq, hpair.log_eq', hsample⟩
  change step (s.gated on l) = .next t' at hstep'
  cases hrun : s.running with
  | false =>
    rw [step_of_not_running hrun] at hstep
    rw [step_of_not_running (s := s.gated on l) hrun] at hstep'
    cases hstep
    cases hstep'
    exact ⟨_, _, gatedPair_gated s on l, .inl rfl⟩
  | true =>
    rw [step_of_running hrun] at hstep
    rw [step_of_running (s := s.gated on l) hrun] at hstep'
    rcases fetchInstr_gated s on l with ⟨i, u, hf, hf'⟩ | ⟨e, op, a, u, hf, -, hlog, hf'⟩
    · rw [hf] at hstep
      rw [hf'] at hstep'
      obtain ⟨hwf, hop, haddr, hu⟩ := fetchInstr_ok hf
      obtain ⟨eff, m⟩ := i.form hwf
      have hlog : u.log = s.log := by rw [hu]; exact leaveBoot_log s
      have hcfg : u.cfg = s.cfg := by rw [hu]; exact leaveBoot_cfg s
      have hexec := m.exec_gated hstep hstep'
      rwa [hlog, hop, haddr, State.unmappedAt_congr hcfg] at hexec
    · rw [hf] at hstep
      rw [hf'] at hstep'
      cases hstep
      cases hstep'
      exact ⟨_, _, hlog ▸ gatedPair_takeError e op a u on l, .inl rfl⟩

end Sys2Proof
end

section
/-! SUPPORT. How an instruction ends by the outcome of its accesses, and what the stack and word stores leave where all bytes are mapped and
where one is not (60_exceptions.md R500, R505). -/

namespace Sys2Proof

open Sys2Proof.Machine

section
variable {i : Instr} {eff : Exec Charge} {s u v : State} {ch : Charge} {e : ErrorKind} {unmapped : Bool}

/-- An effect whose one test of its addresses passes completes. -/
theorem Meaning.completes_of_mapped (m : Meaning i eff) (h : unmapped = false)
    (heff : eff s = if unmapped then .error e v else .ok ch u) : Completes i s ch u :=
  m.completes (heff.trans (by rw [h]; rfl))

/-- An effect whose one test of its addresses fails takes the error. -/
theorem Meaning.raises_of_unmapped (m : Meaning i eff) (h : unmapped = true)
    (heff : eff s = if unmapped then .error e u else .ok ch v) : Raises i s e u :=
  m.raises (heff.trans (by rw [h]; rfl))

end

theorem or_false_of_mapped {a b : Bool} (ha : a = false) (hb : b = false) : (a || b) = false := by
  rw [ha, hb]
  rfl

/-- What a push leaves that raises. -/
theorem pushed_of_unmapped {s : State} (v : Word) (h : (s.unmappedAt (s.sp - 2) || s.unmappedAt (s.sp - 1)) = true) :
    pushed s v = if s.unmappedAt (s.sp - 2) then { s with sp := s.sp - 2 }
      else { s with sp := s.sp - 2 }.poke (s.sp - 2) (v.setWidth 8) := by
  have hnext := sub_two_add_one s.sp
  simp only [pushed, wordStored, State.setSp_unmappedAt, hnext, loByte_eq]
  cases hlow : s.unmappedAt (s.sp - 2)
  · rw [hlow, Bool.false_or] at h
    simp only [h]
    rfl
  · rfl

theorem wordStored_of_mapped {s : State} {a : Word} (v : Word) (h₀ : s.unmappedAt a = false)
    (h₁ : s.unmappedAt (a + 1) = false) :
    wordStored s a v = (s.poke a (v.setWidth 8)).poke (a + 1) ((v >>> 8).setWidth 8) := by
  simp only [wordStored, h₀, h₁, loByte_eq, hiByte_eq, Bool.false_eq_true, if_false]

theorem wordStored_of_unmapped {s : State} {a : Word} (v : Word) (h : (s.unmappedAt a || s.unmappedAt (a + 1)) = true) :
    wordStored s a v = if s.unmappedAt a then s else s.poke a (v.setWidth 8) := by
  cases hlow : s.unmappedAt a
  · rw [hlow, Bool.false_or] at h
    simp only [wordStored, hlow, h, loByte_eq, Bool.false_eq_true, if_false, if_true]
  · simp only [wordStored, hlow, if_true]

theorem callIf_of_holds {cc : Cond} {s : State} (h : s.flags.holds cc = true) (nn : Word) :
    callIf cc nn s = if s.unmappedAt (s.sp - 2) || s.unmappedAt (s.sp - 1) then .error .memoryAccess (pushed s s.pc)
      else .ok ⟨true, 5⟩ ((pushed s s.pc).setPc nn) := by
  rw [callIf_eq, if_pos h]

theorem callIf_of_not_holds {cc : Cond} {s : State} (h : s.flags.holds cc = false) (nn : Word) :
    callIf cc nn s = .ok ⟨false, 3⟩ s := by
  rw [callIf_eq, h]
  rfl

theorem retIf_of_holds {cc : Cond} {s : State} (h : s.flags.holds cc = true) :
    retIf cc s = if s.unmappedAt s.sp || s.unmappedAt (s.sp + 1) then .error .memoryAccess s
      else .ok ⟨true, 5⟩ (poppedPc s) := by
  rw [retIf_eq, if_pos h]

theorem retIf_of_not_holds {cc : Cond} {s : State} (h : s.flags.holds cc = false) : retIf cc s = .ok ⟨false, 3⟩ s := by
  rw [retIf_eq, h]
  rfl

end Sys2Proof
end

section
/-! SUPPORT. What settles O30 to O33: the loads and the stack (41_load8.md, 42_load16_stack.md). -/

namespace Sys2Proof

open Sys2Proof.Machine

/-- Settles O30: each form's effect, by its equation. -/
theorem loadByte : Obligations.LoadByte :=
  ⟨fun d r s => (Meaning.ldRegReg d r).completes (ldRegReg_eq d r s),
    fun d n s => (Meaning.ldRegImm d n).completes (ldRegImm_eq d n s),
    fun d s h => (Meaning.ldRegMem d).completes_of_mapped h (ldRegMem_eq d s),
    fun s h => Meaning.ldABC.completes_of_mapped h (loadA_eq _ 2 s),
    fun s h => Meaning.ldADE.completes_of_mapped h (loadA_eq _ 2 s),
    fun nn s h => (Meaning.ldANN nn).completes_of_mapped h (loadA_eq _ 4 s),
    fun n s h => (Meaning.ldhAN n).completes_of_mapped h (loadA_eq _ 3 s),
    fun s h => Meaning.ldAHLI.completes_of_mapped h (loadAMove_eq _ s),
    fun s h => Meaning.ldAHLD.completes_of_mapped h (loadAMove_eq _ s)⟩

/-- Settles O31: each form's effect, by its equation. -/
theorem storeByte : Obligations.StoreByte :=
  ⟨fun r s h => (Meaning.ldMemReg r).completes_of_mapped h (ldMemReg_eq r s),
    fun n s h => (Meaning.ldMemImm n).completes_of_mapped h (ldMemImm_eq n s),
    fun s h => Meaning.ldBCA.completes_of_mapped h (storeA_eq _ 2 s),
    fun s h => Meaning.ldDEA.completes_of_mapped h (storeA_eq _ 2 s),
    fun nn s h => (Meaning.ldNNA nn).completes_of_mapped h (storeA_eq _ 4 s),
    fun n s h => (Meaning.ldhNA n).completes_of_mapped h (storeA_eq _ 3 s),
    fun s h => Meaning.ldCA.completes_of_mapped h (storeA_eq _ 2 s),
    fun s h => Meaning.ldHLIA.completes_of_mapped h (storeAMove_eq _ s),
    fun s h => Meaning.ldHLDA.completes_of_mapped h (storeAMove_eq _ s)⟩

theorem Machine.Alu.addWords_fst (f : Flags) (a b : Word) : (Alu.addWords f a b).1 = a + b := by
  rw [Alu.addWords_eq]

/-- Settles O32: the displacement as the sign extension of the byte, the sum as the word's. -/
theorem loadWord : Obligations.LoadWord := by
  refine ⟨fun p nn s => (Meaning.ldReg16Imm (.pair p) nn).completes (ldReg16Imm_eq _ nn s),
    fun nn s => (Meaning.ldReg16Imm .SP nn).completes (ldReg16Imm_eq _ nn s), fun nn s h₀ h₁ => ?absolute,
    fun s => Meaning.ldSPHL.completes (ldSPHL_eq s), fun e s => ?displaced⟩
  case absolute =>
    rw [← wordStored_of_mapped s.sp h₀ h₁]
    exact (Meaning.ldNNSP nn).completes_of_mapped (or_false_of_mapped h₀ h₁) (ldAbsSP_eq nn s)
  case displaced =>
    rw [← sext16_eq, ← Alu.addWords_fst s.flags]
    exact (Meaning.ldHLSPe e).completes (ldHLSPe_eq e s)

/-- Settles O33: the pushed word's bytes are the pair's halves, and a popped word's bytes go to them. -/
theorem pushAndPop : Obligations.PushAndPop := by
  have hpushed (r : StackReg) (s : State) (h₀ : s.unmappedAt (s.sp - 2) = false) (h₁ : s.unmappedAt (s.sp - 1) = false) :
      Completes (.pushReg r) s ⟨true, 3⟩
        (({ s with sp := s.sp - 2 }.poke (s.sp - 2) (loByte (s.stackReg r))).poke (s.sp - 1) (hiByte (s.stackReg r))) := by
    rw [loByte_eq, hiByte_eq, ← pushed_of_mapped _ h₀ h₁]
    exact (Meaning.push r).completes_of_mapped (or_false_of_mapped h₀ h₁) (push_eq r s)
  have hpopped (r : StackReg) (s : State) (h₀ : s.unmappedAt s.sp = false) (h₁ : s.unmappedAt (s.sp + 1) = false) :
      Completes (.popReg r) s ⟨true, 3⟩ ((s.setSp (s.sp + 2)).setStackReg r (wordOf (s.peek (s.sp + 1)) (s.peek s.sp))) :=
    (Meaning.pop r).completes_of_mapped (or_false_of_mapped h₀ h₁) (pop_eq r s)
  refine ⟨fun p s h₀ h₁ => ?pushPair, fun s h₀ h₁ => ?pushAF, fun p s h₀ h₁ => ?popPair, fun s h₀ h₁ => ?popAF⟩
  case pushPair => simpa only [State.stackReg, State.pair, loByte_wordOf, hiByte_wordOf] using hpushed (.pair p) s h₀ h₁
  case pushAF => simpa only [State.stackReg, loByte_wordOf, hiByte_wordOf] using hpushed .AF s h₀ h₁
  case popPair =>
    have h := hpopped (.pair p) s h₀ h₁
    simp only [State.setStackReg, State.setPair, loByte_wordOf, hiByte_wordOf] at h
    exact h
  case popAF =>
    have h := hpopped .AF s h₀ h₁
    simp only [State.setStackReg, loByte_wordOf, hiByte_wordOf] at h
    exact h

end Sys2Proof
end

section
/-! SUPPORT. What settles O34 to O37: arithmetic (43_arith8.md, 44_arith16.md). -/

namespace Sys2Proof

open Sys2Proof.Machine

/-- Settles O34: each operation selects its primitive; `CP` puts the accumulator back as it was. -/
theorem accumulatorOperations : Obligations.AccumulatorOperations := by
  intro src s h keep ch
  have hcompletes (op : AccOp) :
      Completes (.acc op src) s ch (keep (Alu.accumulate op s.flags (s.reg .A) (s.source src))) := by
    have hch : ch = ⟨true, sourceCost src⟩ := by rcases src with (_ | _) | _ <;> rfl
    rw [hch]
    exact (Meaning.acc op src).completes_of_mapped h (accumulate_eq op src s)
  exact ⟨hcompletes .add, hcompletes .adc, hcompletes .sub, hcompletes .sbc, hcompletes .and, hcompletes .xor, hcompletes .or,
    hcompletes .cp⟩

/-- Settles O35: read, modify, write back. -/
theorem incrementAndDecrement : Obligations.IncrementAndDecrement := by
  intro o s h ch
  have hch : ch = ⟨true, operandCost 1 3 o⟩ := by cases o <;> rfl
  rw [hch]
  exact ⟨(Meaning.inc o).completes_of_mapped h (incOperand_eq o s), (Meaning.dec o).completes_of_mapped h (decOperand_eq o s)⟩

/-- Settles O36: each effect by its equation; `CCF`'s in the two modes. -/
theorem accumulatorAndCarryOperations : Obligations.AccumulatorAndCarryOperations := by
  intro s keep
  have hmodify {i : Instr} {f : Flags → Byte → Byte × Flags} (m : Meaning i (modifyA f)) :
      Completes i s ⟨true, 1⟩ (keep (f s.flags (s.reg .A))) := m.completes (modifyA_eq f s)
  refine ⟨hmodify .cpl, Meaning.scf.completes (setCarryFlag_eq s), fun hmode => ?toggle, fun hmode => ?clear, hmodify .rlca,
    hmodify .rrca, hmodify .rla, hmodify .rra⟩
  case toggle | clear => exact Meaning.ccf.completes (by rw [complementCarryFlag_eq, hmode])

/-- Settles O37: the primitives' results as the words' sums and differences. -/
theorem wordArithmetic : Obligations.WordArithmetic := by
  have hinc (f : Flags) (x : Word) : (Alu.incWord f x).1 = x + 1 := by rw [Alu.incWord_eq]
  have hdec (f : Flags) (x : Word) : (Alu.decWord f x).1 = x - 1 := by rw [Alu.decWord_eq]
  refine ⟨fun p s => ?_, fun s => ?_, fun p s => ?_, fun s => ?_, fun r s => ?_, fun e s => ?_⟩
  · rw [← hinc s.flags]
    exact (Meaning.incReg16 (.pair p)).completes (incReg16_eq _ s)
  · rw [← hinc s.flags]
    exact (Meaning.incReg16 .SP).completes (incReg16_eq _ s)
  · rw [← hdec s.flags]
    exact (Meaning.decReg16 (.pair p)).completes (decReg16_eq _ s)
  · rw [← hdec s.flags]
    exact (Meaning.decReg16 .SP).completes (decReg16_eq _ s)
  · rw [← Alu.addWords_fst s.flags]
    exact (Meaning.addHL r).completes (addHL_eq r s)
  · rw [← sext16_eq, ← Alu.addWords_fst s.flags]
    exact (Meaning.addSPe e).completes (addSPe_eq e s)

end Sys2Proof
end

section
/-! SUPPORT. What settles O38 to O44: control transfer, the extended table and the system instructions (45_control.md, 46_cb.md,
47_system.md). -/

namespace Sys2Proof

open Sys2Proof.Machine

/-- Settles O38: each jump's effect by its equation. -/
theorem jumps : Obligations.Jumps :=
  ⟨fun _ => ⟨rfl, rfl, rfl, rfl⟩, fun nn s => (Meaning.jp nn).completes (jump_eq _ 3 s),
    fun cc nn s => (Meaning.jpIf cc nn).completes (jumpIf_eq cc nn s), fun s => Meaning.jpHL.completes (jump_eq _ 1 s),
    fun e s => (Meaning.jr e).completes (jumpRelative_eq e s), fun cc e s => (Meaning.jrIf cc e).completes (jumpRelativeIf_eq cc e s)⟩

/-- Settles O39: a call is a push of the next instruction's address and a jump. -/
theorem callsAndRestarts : Obligations.CallsAndRestarts := by
  intro s
  refine ⟨fun cc nn hcc => (Meaning.callIf cc nn).completes (callIf_of_not_holds hcc nn), fun h₀ h₁ => ?_⟩
  have hmapped := or_false_of_mapped h₀ h₁
  rw [← pushed_of_mapped s.pc h₀ h₁]
  exact ⟨fun nn => (Meaning.call nn).completes_of_mapped hmapped (call_eq nn s),
    fun cc nn hcc => (Meaning.callIf cc nn).completes_of_mapped hmapped (callIf_of_holds hcc nn),
    fun y => (Meaning.rst y).completes_of_mapped hmapped (restart_eq _ s)⟩

/-- Settles O40: a return is a pop into `pc`. -/
theorem returns : Obligations.Returns := by
  intro s
  refine ⟨fun cc hcc => (Meaning.retIf cc).completes (retIf_of_not_holds hcc), fun h₀ h₁ => ?_⟩
  have hmapped := or_false_of_mapped h₀ h₁
  exact ⟨Meaning.ret.completes_of_mapped hmapped (ret_eq s),
    fun cc hcc => (Meaning.retIf cc).completes_of_mapped hmapped (retIf_of_holds hcc),
    Meaning.reti.completes_of_mapped hmapped (reti_eq s)⟩

/-- Settles O41: each operation selects its primitive. -/
theorem extendedRotatesAndShifts : Obligations.ExtendedRotatesAndShifts := by
  intro o s h v keep ch
  have hcompletes (op : RotOp) : Completes (.rot op o) s ch (keep (Alu.rotate op s.flags v)) := by
    have hch : ch = ⟨true, operandCost 2 4 o⟩ := by cases o <;> rfl
    rw [hch]
    exact (Meaning.rot op o).completes_of_mapped h (rotateOperand_eq op o s)
  exact ⟨hcompletes .rlc, hcompletes .rrc, hcompletes .rl, hcompletes .rr, hcompletes .sla, hcompletes .sra, hcompletes .swap,
    hcompletes .srl⟩

/-- Settles O42: the encodings are those of O5's lemmas, the effects by their equations. -/
theorem bitTestResetSet : Obligations.BitTestResetSet := by
  intro b o s h v
  have hbit := (Meaning.bit b o).completes_of_mapped h (testBit_eq b o s)
  have hres := (Meaning.res b o).completes_of_mapped h (clearBit_eq b o s)
  have hset := (Meaning.set b o).completes_of_mapped h (raiseBit_eq b o s)
  refine ⟨⟨encode_bit b o, ?_⟩, ⟨encode_res b o, ?_⟩, ⟨encode_set b o, ?_⟩⟩
  · cases o <;> exact hbit
  · cases o <;> exact hres
  · cases o <;> exact hset

theorem row_of_encode_extended {i : Instr} {sub : Byte} (h : encode i = [0xCB, sub]) : i.row = .extended sub := by
  rw [Instr.row, h]
  rfl

theorem row_of_encode_ne_extended {i : Instr} (h : ∀ sub : Byte, encode i ≠ [0xCB, sub]) : i.row = .primary i.opcode := by
  unfold Instr.row
  split
  case h_1 sub henc => exact absurd henc (h sub)
  case h_2 => rfl

/-- Settles O43: the five effects by their equations, the cost by the search for its entry. -/
theorem systemInstructions : Obligations.SystemInstructions :=
  ⟨fun s => ⟨Meaning.nop.completes (nop_eq s), Meaning.stop.completes (stop_eq s), Meaning.halt.completes (halt_eq s),
      Meaning.di.completes (setInterrupts_eq false s), Meaning.ei.completes (setInterrupts_eq true s)⟩,
    fun _ _ _ _ _ _ => costOf_first, fun _ _ _ => costOf_default, rfl, fun _ _ => row_of_encode_extended,
    fun _ => row_of_encode_ne_extended⟩

/-- Settles O44: the fetch of the row 0xCB, and that what the decoder answers is well formed. -/
theorem prefixRunsTheExtendedRow : Obligations.PrefixRunsTheExtendedRow := by
  refine ⟨fun s h => ?mapped, fun s h => ?unmapped, fun bytes rest hdec => ?undecoded⟩
  case mapped =>
    obtain ⟨t, ht⟩ := exec_next .prefix_CB s
    refine ⟨t, ht, ?_⟩
    rw [exec_prefix_CB, h] at ht
    rw [extendedRow_eq]
    exact ht
  case unmapped =>
    rw [exec_prefix_CB, h]
    rfl
  case undecoded =>
    obtain ⟨-, hwf⟩ := encodeOfDecodeIsTheBytes _ _ _ hdec
    cases hwf

end Sys2Proof
end

section
/-! SUPPORT. What settles O45 and O46: the accesses that raise (60_exceptions.md R505, R507). -/

namespace Sys2Proof

open Sys2Proof.Machine

/-- Settles O45: each form tests its one address before anything else. -/
theorem unmappedByteRaises : Obligations.UnmappedByteRaises :=
  ⟨fun s h => ⟨fun d => (Meaning.ldRegMem d).raises_of_unmapped h (ldRegMem_eq d s),
      fun r => (Meaning.ldMemReg r).raises_of_unmapped h (ldMemReg_eq r s),
      fun n => (Meaning.ldMemImm n).raises_of_unmapped h (ldMemImm_eq n s),
      Meaning.ldAHLI.raises_of_unmapped h (loadAMove_eq _ s), Meaning.ldAHLD.raises_of_unmapped h (loadAMove_eq _ s),
      Meaning.ldHLIA.raises_of_unmapped h (storeAMove_eq _ s), Meaning.ldHLDA.raises_of_unmapped h (storeAMove_eq _ s),
      fun op => (Meaning.acc op (.op .mHL)).raises_of_unmapped h (accumulate_eq op _ s),
      (Meaning.inc .mHL).raises_of_unmapped h (incOperand_eq _ s), (Meaning.dec .mHL).raises_of_unmapped h (decOperand_eq _ s),
      fun op => (Meaning.rot op .mHL).raises_of_unmapped h (rotateOperand_eq op _ s),
      fun b => ⟨(Meaning.bit b .mHL).raises_of_unmapped h (testBit_eq b _ s),
        (Meaning.res b .mHL).raises_of_unmapped h (clearBit_eq b _ s),
        (Meaning.set b .mHL).raises_of_unmapped h (raiseBit_eq b _ s)⟩⟩,
    fun s h => ⟨Meaning.ldABC.raises_of_unmapped h (loadA_eq _ 2 s), Meaning.ldBCA.raises_of_unmapped h (storeA_eq _ 2 s)⟩,
    fun s h => ⟨Meaning.ldADE.raises_of_unmapped h (loadA_eq _ 2 s), Meaning.ldDEA.raises_of_unmapped h (storeA_eq _ 2 s)⟩,
    fun nn s h => ⟨(Meaning.ldANN nn).raises_of_unmapped h (loadA_eq _ 4 s),
      (Meaning.ldNNA nn).raises_of_unmapped h (storeA_eq _ 4 s)⟩,
    fun n s h => ⟨(Meaning.ldhAN n).raises_of_unmapped h (loadA_eq _ 3 s),
      (Meaning.ldhNA n).raises_of_unmapped h (storeA_eq _ 3 s)⟩,
    fun s h => Meaning.ldCA.raises_of_unmapped h (storeA_eq _ 2 s)⟩

/-- Settles O46: what a failing push and a failing word store have done, and that a failing pop has done nothing. -/
theorem unmappedStackByteRaises : Obligations.UnmappedStackByteRaises := by
  refine ⟨fun s h => ?push, fun s h => ?pop, fun nn s h => ?store⟩
  case push =>
    intro left
    have hleft (v : Word) : pushed s v = left v := pushed_of_unmapped v h
    simp only [← hleft]
    exact ⟨fun r => (Meaning.push r).raises_of_unmapped h (push_eq r s),
      fun nn => (Meaning.call nn).raises_of_unmapped h (call_eq nn s),
      fun cc nn hcc => (Meaning.callIf cc nn).raises_of_unmapped h (callIf_of_holds hcc nn),
      fun y => (Meaning.rst y).raises_of_unmapped h (restart_eq _ s)⟩
  case pop =>
    exact ⟨fun r => (Meaning.pop r).raises_of_unmapped h (pop_eq r s), Meaning.ret.raises_of_unmapped h (ret_eq s),
      Meaning.reti.raises_of_unmapped h (reti_eq s), fun cc hcc => (Meaning.retIf cc).raises_of_unmapped h (retIf_of_holds hcc)⟩
  case store =>
    rw [← wordStored_of_unmapped s.sp h]
    exact (Meaning.ldNNSP nn).raises_of_unmapped h (ldAbsSP_eq nn s)

end Sys2Proof
end

section
/-! SUPPORT. From what an effect leaves to what its instruction leaves, one lemma a question: bytes, registers, flags and `sp`; and what settles
O47 to O51. -/

namespace Sys2Proof

open Sys2Proof.Machine

section
variable (c : Prop) [Decidable c] (s t : State)

theorem peek_ite (a : Word) : (if c then s else t).peek a = if c then s.peek a else t.peek a := apply_ite (State.peek · a) c s t

theorem reg_ite (r : Reg8) : (if c then s else t).reg r = if c then s.reg r else t.reg r := apply_ite (State.reg · r) c s t

theorem flags_ite : (if c then s else t).flags = if c then s.flags else t.flags := apply_ite State.flags c s t

theorem sp_ite : (if c then s else t).sp = if c then s.sp else t.sp := apply_ite State.sp c s t

end

@[simp] theorem peek_interruptsEnabled (s : State) (on : Bool) (a : Word) :
    { s with interruptsEnabled := on }.peek a = s.peek a := rfl

@[simp] theorem peek_running (s : State) (on : Bool) (a : Word) : { s with running := on }.peek a = s.peek a := rfl

@[simp] theorem reg_interruptsEnabled (s : State) (on : Bool) (r : Reg8) :
    { s with interruptsEnabled := on }.reg r = s.reg r := State.reg_congr rfl r

@[simp] theorem reg_running (s : State) (on : Bool) (r : Reg8) : { s with running := on }.reg r = s.reg r :=
  State.reg_congr rfl r

theorem pairHi_HL : pairHi .HL = .H := rfl

theorem pairLo_HL : pairLo .HL = .L := rfl

section
variable {i : Instr} {eff : Exec Charge}

theorem Meaning.storesOnlyAt {addresses : State → List Word} (m : Meaning i eff)
    (h : ∀ s a, a ∉ addresses s → (eff.after s).peek a = s.peek a) : StoresOnlyAt i addresses :=
  fun s _ a hexec hly ha => ((m.exec_ends hexec).peek hly).trans (h s a ha)

theorem Meaning.storesNothing (m : Meaning i eff) (h : ∀ s a, (eff.after s).peek a = s.peek a) :
    StoresOnlyAt i fun _ => [] :=
  m.storesOnlyAt fun s a _ => h s a

theorem Meaning.writesOnly {registers : List Reg8} (m : Meaning i eff)
    (h : ∀ s r, r ∉ registers → (eff.after s).reg r = s.reg r) : WritesOnly i registers :=
  fun s _ r hexec hr => ((m.exec_ends hexec).reg r).trans (h s r hr)

theorem Meaning.writesNoRegister (m : Meaning i eff) (h : ∀ s r, (eff.after s).reg r = s.reg r) : WritesOnly i [] :=
  m.writesOnly fun s r _ => h s r

/-- An instruction keeps a part of the flags that its effect keeps. -/
theorem Meaning.keeps {α : Type} (part : Flags → α) (m : Meaning i eff) {s t : State} (hexec : exec i s = .next t)
    (h : part (eff.after s).flags = part s.flags) : part t.flags = part s.flags :=
  (congrArg part (m.exec_ends hexec).flags).trans h

/-- An instruction keeps the flags that its effect keeps, which is seen from the effect's equation. -/
theorem Meaning.keepsFlags (m : Meaning i eff) {s t : State} (hexec : exec i s = .next t)
    (h : (eff.after s).flags = s.flags := by simp [Exec.after, flags_ite]) : t.flags = s.flags :=
  m.keeps id hexec h


end

theorem reti_after (s : State) :
    reti.after s = if s.unmappedAt s.sp || s.unmappedAt (s.sp + 1) then s else { poppedPc s with interruptsEnabled := true } := by
  rw [Exec.after, reti_eq]
  split <;> rfl

/-- Settles O47: each effect's stores are those of its equation, at the addresses it computes. -/
theorem storesGoWhereTheFormSays : Obligations.StoresGoWhereTheFormSays := by
  refine ⟨fun r => (Meaning.ldMemReg r).storesOnlyAt ?_, fun n => (Meaning.ldMemImm n).storesOnlyAt ?_,
    Meaning.ldHLIA.storesOnlyAt ?_, Meaning.ldHLDA.storesOnlyAt ?_, Meaning.ldBCA.storesOnlyAt ?_, Meaning.ldDEA.storesOnlyAt ?_,
    fun nn => (Meaning.ldNNA nn).storesOnlyAt ?_, fun n => (Meaning.ldhNA n).storesOnlyAt ?_, Meaning.ldCA.storesOnlyAt ?_,
    fun nn => (Meaning.ldNNSP nn).storesOnlyAt ?word, fun r => (Meaning.push r).storesOnlyAt ?push,
    fun nn => (Meaning.call nn).storesOnlyAt ?call, fun cc nn => (Meaning.callIf cc nn).storesOnlyAt ?callIf,
    fun y => (Meaning.rst y).storesOnlyAt ?rst, (Meaning.inc .mHL).storesOnlyAt ?_, (Meaning.dec .mHL).storesOnlyAt ?_,
    fun op => (Meaning.rot op .mHL).storesOnlyAt ?_,
    fun b => ⟨(Meaning.res b .mHL).storesOnlyAt ?_, (Meaning.set b .mHL).storesOnlyAt ?_⟩⟩
  case word =>
    intro s a ha
    obtain ⟨hlow, hhigh⟩ := by simpa using ha
    simp [Exec.after, wordStored_peek s s.sp hlow hhigh]
  case push | call | callIf | rst =>
    intro s a ha
    obtain ⟨hlow, hhigh⟩ := by simpa using ha
    simp [Exec.after, peek_ite, pushed_peek s _ hlow hhigh]
  all_goals
    intro s a ha
    have hne := List.ne_of_not_mem_cons ha
    simp [Exec.after, peek_ite, State.putOperand, State.peek_poke_ne _ _ hne]

/-- Settles O48: no effect of these forms has a store in its equation. -/
theorem otherFormsStoreNothing : Obligations.OtherFormsStoreNothing := by
  refine ⟨fun d r => (Meaning.ldRegReg d r).storesNothing ?_, fun d n => (Meaning.ldRegImm d n).storesNothing ?_,
    fun d => (Meaning.ldRegMem d).storesNothing ?_, ?closedForms,
    fun nn => ⟨(Meaning.ldANN nn).storesNothing ?_, (Meaning.jp nn).storesNothing ?_⟩,
    fun n => ⟨(Meaning.ldhAN n).storesNothing ?_, (Meaning.ldHLSPe n).storesNothing ?_, (Meaning.addSPe n).storesNothing ?_,
      (Meaning.jr n).storesNothing ?_⟩,
    fun r nn => (Meaning.ldReg16Imm r nn).storesNothing ?_, fun r => (Meaning.pop r).storesNothing ?_,
    fun op src => (Meaning.acc op src).storesNothing ?_,
    fun r => ⟨(Meaning.inc (.reg r)).storesNothing ?_, (Meaning.dec (.reg r)).storesNothing ?_⟩,
    fun r => ⟨(Meaning.incReg16 r).storesNothing ?_, (Meaning.decReg16 r).storesNothing ?_, (Meaning.addHL r).storesNothing ?_⟩,
    fun cc nn => (Meaning.jpIf cc nn).storesNothing ?_, fun cc e => (Meaning.jrIf cc e).storesNothing ?_,
    fun cc => (Meaning.retIf cc).storesNothing ?_, fun op r => (Meaning.rot op (.reg r)).storesNothing ?_,
    fun b o => (Meaning.bit b o).storesNothing ?_,
    fun b r => ⟨(Meaning.res b (.reg r)).storesNothing ?_, (Meaning.set b (.reg r)).storesNothing ?_⟩,
    fun i hi => (Meaning.unsupported hi).storesNothing ?_⟩
  case closedForms =>
    simp only [List.forall_mem_cons]
    refine ⟨Meaning.ldABC.storesNothing ?_, Meaning.ldADE.storesNothing ?_, Meaning.ldAHLI.storesNothing ?_,
      Meaning.ldAHLD.storesNothing ?_, Meaning.ldSPHL.storesNothing ?_, Meaning.cpl.storesNothing ?_, Meaning.scf.storesNothing ?_,
      Meaning.ccf.storesNothing ?_, Meaning.rlca.storesNothing ?_, Meaning.rrca.storesNothing ?_, Meaning.rla.storesNothing ?_,
      Meaning.rra.storesNothing ?_, Meaning.jpHL.storesNothing ?_, Meaning.ret.storesNothing ?_, Meaning.reti.storesNothing ?reti,
      Meaning.nop.storesNothing ?_, Meaning.stop.storesNothing ?_, Meaning.halt.storesNothing ?_, Meaning.di.storesNothing ?_,
      Meaning.ei.storesNothing ?_, fun _ h => nomatch h⟩
    case reti =>
      intro s a
      rw [reti_after, peek_ite]
      exact ite_self _
    all_goals
      intro s a
      simp [Exec.after, peek_ite]
  all_goals
    intro s a
    simp [Exec.after, peek_ite, State.putOperand]

/-- Settles O49: each effect's register writes are those of its equation. -/
theorem registersChangeOnlyAtTheDestination : Obligations.RegistersChangeOnlyAtTheDestination := by
  refine ⟨fun d r => (Meaning.ldRegReg d r).writesOnly ?_, fun d n => (Meaning.ldRegImm d n).writesOnly ?_,
    fun d => (Meaning.ldRegMem d).writesOnly ?_, fun r => (Meaning.ldMemReg r).writesOnly ?_, ?accumulator,
    fun nn => (Meaning.ldANN nn).writesOnly ?_, fun n => (Meaning.ldhAN n).writesOnly ?_, ?moving, ?storing,
    fun e => (Meaning.ldHLSPe e).writesOnly ?_, fun p nn => (Meaning.ldReg16Imm (.pair p) nn).writesOnly ?_,
    fun p => (Meaning.pop (.pair p)).writesOnly ?_, (Meaning.pop .AF).writesOnly ?_,
    fun op src => (Meaning.acc op src).writesOnly ?_, fun src => (Meaning.acc .cp src).writesNoRegister ?compare,
    fun r => ⟨(Meaning.inc (.reg r)).writesOnly ?_, (Meaning.dec (.reg r)).writesOnly ?_⟩,
    fun p => ⟨(Meaning.incReg16 (.pair p)).writesOnly ?_, (Meaning.decReg16 (.pair p)).writesOnly ?_⟩,
    fun r => (Meaning.addHL r).writesOnly ?_, fun op r => (Meaning.rot op (.reg r)).writesOnly ?_,
    fun b r => ⟨(Meaning.res b (.reg r)).writesOnly ?_, (Meaning.set b (.reg r)).writesOnly ?_⟩, ?none,
    fun n => ⟨(Meaning.ldMemImm n).writesOnly ?_, (Meaning.ldhNA n).writesOnly ?_, (Meaning.addSPe n).writesOnly ?_,
      (Meaning.jr n).writesOnly ?_⟩,
    fun nn => ⟨(Meaning.ldNNA nn).writesOnly ?_, (Meaning.ldNNSP nn).writesOnly ?_, (Meaning.ldReg16Imm .SP nn).writesOnly ?_,
      (Meaning.jp nn).writesOnly ?_, (Meaning.call nn).writesOnly ?_⟩,
    fun cc nn e => ⟨(Meaning.jpIf cc nn).writesOnly ?_, (Meaning.callIf cc nn).writesOnly ?_, (Meaning.jrIf cc e).writesOnly ?_,
      (Meaning.retIf cc).writesOnly ?_⟩,
    fun r => (Meaning.push r).writesOnly ?_, fun y => (Meaning.rst y).writesOnly ?_,
    fun op => (Meaning.rot op .mHL).writesOnly ?_,
    fun b o => ⟨(Meaning.bit b o).writesOnly ?_, (Meaning.res b .mHL).writesOnly ?_, (Meaning.set b .mHL).writesOnly ?_⟩,
    fun i hi => (Meaning.unsupported hi).writesOnly ?_⟩
  case accumulator =>
    simp only [List.forall_mem_cons]
    refine ⟨Meaning.ldABC.writesOnly ?_, Meaning.ldADE.writesOnly ?_, Meaning.cpl.writesOnly ?_, Meaning.rlca.writesOnly ?_,
      Meaning.rrca.writesOnly ?_, Meaning.rla.writesOnly ?_, Meaning.rra.writesOnly ?_, fun _ h => nomatch h⟩
    all_goals
      intro s r hr
      have hA := List.ne_of_not_mem_cons hr
      simp [Exec.after, reg_ite, State.reg_setReg, hA]
  case moving =>
    simp only [List.forall_mem_cons]
    refine ⟨Meaning.ldAHLI.writesOnly ?_, Meaning.ldAHLD.writesOnly ?_, fun _ h => nomatch h⟩
    all_goals
      intro s r hr
      obtain ⟨hA, hH, hL⟩ := by simpa using hr
      simp [Exec.after, reg_ite, State.setPair, State.reg_setReg, pairHi_HL, pairLo_HL, hA, hH, hL]
  case storing =>
    simp only [List.forall_mem_cons]
    refine ⟨Meaning.ldHLIA.writesOnly ?_, Meaning.ldHLDA.writesOnly ?_, fun _ h => nomatch h⟩
    all_goals
      intro s r hr
      obtain ⟨hH, hL⟩ := by simpa using hr
      simp [Exec.after, reg_ite, State.setPair, State.reg_setReg, pairHi_HL, pairLo_HL, hH, hL]
  case none =>
    simp only [List.forall_mem_cons]
    refine ⟨Meaning.ldBCA.writesOnly ?_, Meaning.ldDEA.writesOnly ?_, Meaning.ldCA.writesOnly ?_, Meaning.ldSPHL.writesOnly ?_,
      (Meaning.incReg16 .SP).writesOnly ?_, (Meaning.decReg16 .SP).writesOnly ?_, (Meaning.inc .mHL).writesOnly ?_,
      (Meaning.dec .mHL).writesOnly ?_, Meaning.scf.writesOnly ?_, Meaning.ccf.writesOnly ?_, Meaning.jpHL.writesOnly ?_,
      Meaning.ret.writesOnly ?_, Meaning.reti.writesOnly ?reti, Meaning.nop.writesOnly ?_, Meaning.stop.writesOnly ?_,
      Meaning.halt.writesOnly ?_, Meaning.di.writesOnly ?_, Meaning.ei.writesOnly ?_, fun _ h => nomatch h⟩
    case reti =>
      intro s r _
      rw [reti_after, reg_ite]
      exact ite_eq_left_iff.2 fun _ => State.reg_congr rfl r
    all_goals
      intro s r _
      simp [Exec.after, reg_ite, State.setReg16]
  case compare =>
    intro s r
    by_cases hA : r = .A
    · simp [Exec.after, reg_ite, Alu.accumulate, hA]
    · simp [Exec.after, reg_ite, Alu.accumulate, State.reg_setReg, hA]
  all_goals
    intro s r hr
    simp only [List.mem_cons, List.not_mem_nil, or_false, not_or] at hr
    simp [Exec.after, reg_ite, State.setReg16, State.setStackReg, State.setPair, State.putOperand_reg, State.reg_setReg,
      pairHi_HL, pairLo_HL, hr]

/-- The loads, jumps, returns and system instructions without an operand keep the flags. -/
theorem flags_of_closed_form : ∀ i ∈ [Instr.ld_A_mBC, .ld_A_mDE, .ld_mBC_A, .ld_mDE_A, .ld_mC_A, .ld_mHLI_A, .ld_A_mHLI, .ld_mHLD_A,
    .ld_A_mHLD, .ld_SP_HL, .jp_mHL, .ret, .reti, .nop, .stop, .halt, .di, .ei], ∀ s t, exec i s = .next t → t.flags = s.flags := by
  simp only [List.forall_mem_cons]
  exact ⟨fun _ _ h => Meaning.ldABC.keepsFlags h, fun _ _ h => Meaning.ldADE.keepsFlags h, fun _ _ h => Meaning.ldBCA.keepsFlags h,
    fun _ _ h => Meaning.ldDEA.keepsFlags h, fun _ _ h => Meaning.ldCA.keepsFlags h, fun _ _ h => Meaning.ldHLIA.keepsFlags h,
    fun _ _ h => Meaning.ldAHLI.keepsFlags h, fun _ _ h => Meaning.ldHLDA.keepsFlags h, fun _ _ h => Meaning.ldAHLD.keepsFlags h,
    fun _ _ h => Meaning.ldSPHL.keepsFlags h, fun _ _ h => Meaning.jpHL.keepsFlags h, fun _ _ h => Meaning.ret.keepsFlags h,
    fun _ _ h => Meaning.reti.keepsFlags h, fun _ _ h => Meaning.nop.keepsFlags h, fun _ _ h => Meaning.stop.keepsFlags h,
    fun _ _ h => Meaning.halt.keepsFlags h, fun _ _ h => Meaning.di.keepsFlags h, fun _ _ h => Meaning.ei.keepsFlags h,
    fun _ h => nomatch h⟩

/-- Settles O50: each effect's flags are those of its equation, and the primitives' those of theirs. -/
theorem flagsChangeOnlyWhereTheTableSays : Obligations.FlagsChangeOnlyWhereTheTableSays := by
  intro i s t hexec
  refine ⟨?all, ?carry, ?zero, ?others⟩
  case all =>
    rintro (⟨d, r, rfl⟩ | ⟨d, n, rfl⟩ | ⟨d, rfl⟩ | ⟨r, rfl⟩ | ⟨n, rfl | rfl | rfl | rfl⟩ | ⟨nn, rfl | rfl | rfl | rfl | rfl⟩ | hi |
      ⟨r, nn, rfl⟩ | ⟨r, rfl⟩ | ⟨p, rfl⟩ | ⟨cc, nn, rfl | rfl⟩ | ⟨cc, e, rfl⟩ | ⟨cc, rfl⟩ | ⟨y, rfl⟩ | ⟨b, o, rfl | rfl⟩ | hi)
    exacts [(Meaning.ldRegReg d r).keepsFlags hexec, (Meaning.ldRegImm d n).keepsFlags hexec,
      (Meaning.ldRegMem d).keepsFlags hexec, (Meaning.ldMemReg r).keepsFlags hexec, (Meaning.ldMemImm n).keepsFlags hexec,
      (Meaning.ldhNA n).keepsFlags hexec, (Meaning.ldhAN n).keepsFlags hexec, (Meaning.jr n).keepsFlags hexec,
      (Meaning.ldANN nn).keepsFlags hexec, (Meaning.ldNNA nn).keepsFlags hexec, (Meaning.ldNNSP nn).keepsFlags hexec,
      (Meaning.jp nn).keepsFlags hexec, (Meaning.call nn).keepsFlags hexec, flags_of_closed_form i hi s t hexec,
      (Meaning.ldReg16Imm r nn).keepsFlags hexec, (Meaning.push r).keepsFlags hexec,
      (Meaning.pop (.pair p)).keepsFlags hexec (by simp [Exec.after, flags_ite, State.setStackReg]),
      (Meaning.jpIf cc nn).keepsFlags hexec, (Meaning.callIf cc nn).keepsFlags hexec, (Meaning.jrIf cc e).keepsFlags hexec,
      (Meaning.retIf cc).keepsFlags hexec, (Meaning.rst y).keepsFlags hexec, (Meaning.res b o).keepsFlags hexec,
      (Meaning.set b o).keepsFlags hexec, (Meaning.unsupported hi).keepsFlags hexec]
  case carry =>
    rintro (⟨o, rfl | rfl⟩ | ⟨r, rfl | rfl⟩ | ⟨b, o, rfl⟩ | rfl)
    · exact (Meaning.inc o).keeps _ hexec (by simp [Exec.after, flags_ite, apply_ite Flags.fC, Alu.incByte_eq])
    · exact (Meaning.dec o).keeps _ hexec (by simp [Exec.after, flags_ite, apply_ite Flags.fC, Alu.decByte_eq])
    · exact (Meaning.incReg16 r).keeps _ hexec (by simp [Exec.after, Alu.incWord_eq])
    · exact (Meaning.decReg16 r).keeps _ hexec (by simp [Exec.after, Alu.decWord_eq])
    · exact (Meaning.bit b o).keeps _ hexec (by simp [Exec.after, flags_ite, apply_ite Flags.fC, Alu.bitTest])
    · exact Meaning.cpl.keeps _ hexec rfl
  case zero =>
    rintro (⟨r, rfl⟩ | ⟨e, rfl | rfl⟩ | hi)
    · exact (Meaning.addHL r).keeps _ hexec (by simp [Exec.after, Alu.addWords_eq])
    · exact (Meaning.addSPe e).keeps _ hexec (by simp [Exec.after, Alu.addWords_eq])
    · exact (Meaning.ldHLSPe e).keeps _ hexec (by simp [Exec.after, Alu.addWords_eq])
    · simp only [List.mem_cons, List.not_mem_nil, or_false] at hi
      rcases hi with rfl | rfl | rfl
      · exact Meaning.cpl.keeps _ hexec rfl
      · exact Meaning.scf.keeps _ hexec rfl
      · exact Meaning.ccf.keeps _ hexec (by simp [Exec.after])
  case others =>
    intro hi
    simp only [List.mem_cons, List.not_mem_nil, or_false] at hi
    rcases hi with rfl | rfl
    · exact ⟨Meaning.scf.keeps _ hexec rfl, Meaning.scf.keeps _ hexec rfl⟩
    · exact ⟨Meaning.ccf.keeps _ hexec (by simp [Exec.after]), Meaning.ccf.keeps _ hexec (by simp [Exec.after])⟩

/-- The instructions of 10_state.md R24, which write or move `sp`. -/
def MovesSp (i : Instr) : Prop :=
  (∃ nn, i = .ld_SP_nn nn ∨ i = .call_nn nn) ∨ (∃ e, i = .add_SP_e e) ∨
    i ∈ [Instr.ld_SP_HL, .inc_SP, .dec_SP, .ret, .reti] ∨ (∃ r, i = .pushReg r ∨ i = .popReg r) ∨
    (∃ cc nn, i = .callIf cc nn) ∨ (∃ cc, i = .retIf cc) ∨ (∃ y, i = .rst y)

/-- An effect keeps `sp`, unless its instruction is one of those. -/
theorem Meaning.after_sp_or_movesSp {i : Instr} {eff : Exec Charge} (m : Meaning i eff) (s : State) :
    (eff.after s).sp = s.sp ∨ MovesSp i := by
  cases m
  case ldSPHL | ret | reti | addSPe | call => exact .inr (by simp [MovesSp])
  case push r => exact .inr (.inr (.inr (.inr (.inl ⟨r, .inl rfl⟩))))
  case pop r => exact .inr (.inr (.inr (.inr (.inl ⟨r, .inr rfl⟩))))
  case callIf cc nn => exact .inr (.inr (.inr (.inr (.inr (.inl ⟨cc, nn, rfl⟩)))))
  case retIf cc => exact .inr (.inr (.inr (.inr (.inr (.inr (.inl ⟨cc, rfl⟩))))))
  case rst y => exact .inr (.inr (.inr (.inr (.inr (.inr (.inr ⟨y, rfl⟩))))))
  case ldReg16Imm r nn =>
    cases r
    case pair p => exact .inl (by simp [Exec.after, State.setReg16])
    case SP => exact .inr (.inl ⟨nn, .inl rfl⟩)
  case incReg16 r =>
    cases r
    case pair p => exact .inl (by simp [Exec.after, State.setReg16])
    case SP => exact .inr (by simp [MovesSp, Instr.incReg16, Reg16.pick])
  case decReg16 r =>
    cases r
    case pair p => exact .inl (by simp [Exec.after, State.setReg16])
    case SP => exact .inr (by simp [MovesSp, Instr.decReg16, Reg16.pick])
  all_goals exact .inl (by simp [Exec.after, sp_ite])

theorem extendedEffect_after_sp (sub : Byte) (s : State) : ((extendedEffect sub).after s).sp = s.sp := by
  unfold extendedEffect
  split <;> simp [Exec.after, sp_ite]

/-- Settles O51: by the form's effect; the row 0xCB runs an extended row, which keeps `sp`. -/
theorem onlyStackInstructionsMoveSp : Obligations.OnlyStackInstructionsMoveSp := by
  intro i s t hexec hsp
  rcases i.wellFormed_or with hwf | rfl
  · obtain ⟨eff, m⟩ := i.form hwf
    rw [(m.exec_ends hexec).sp] at hsp
    exact (m.after_sp_or_movesSp s).resolve_left hsp
  · rw [exec_prefix_CB] at hexec
    split at hexec
    case isTrue =>
      cases hexec
      exact absurd rfl hsp
    case isFalse =>
      have hends := (extendedForm_meaning _).exec_ends hexec
      exact absurd (hends.sp.trans (extendedEffect_after_sp _ _)) hsp

end Sys2Proof
end
